-- ==== Sys2Proof/Word.lean ====
section
/-! DEFINITION. The word types of the block and the values of its floating-point format (spec 00_scope.md R11, R12, R15). -/

namespace Sys2Proof

/-- A byte (R11). -/
abbrev Byte := BitVec 8

/-- A 32-bit two's-complement value; its number is `BitVec.toInt` (R12). -/
abbrev S32 := BitVec 32

/-- A 32-bit unsigned value; its number is `BitVec.toNat` (R12). -/
abbrev U32 := BitVec 32

/-- A value of the open format FLT (R10, R15, D21). `real q` is a finite value of the format, whichever
format it is; the three others are the values R237 allows a format to have beside its numbers. -/
inductive Flt where
  | real (q : Rat)
  | posInf
  | negInf
  | nan
  deriving DecidableEq, Repr, Inhabited

end Sys2Proof
end

