-- ==== Sys2Proof/Machine/Types.lean ====
section
/-! DEFINITION. The plain data the machine is made of, and the parameters of its step relation (spec 00_scope.md R8 to
R10, 10_state.md R20, 20_memory.md R74, R75). -/

namespace Sys2Proof.Machine

/-! ## Calibration file (10_state.md R20) -/

/-- Temperature coefficients: T1 unsigned, T2 and T3 signed (R20). -/
structure TempCoeffs where
  t1 : BitVec 16
  t2 : BitVec 16
  t3 : BitVec 16
  deriving DecidableEq, Repr, Inhabited

/-- Pressure coefficients: P1 unsigned, P2 to P9 signed (R20). -/
structure PressCoeffs where
  p1 : BitVec 16
  p2 : BitVec 16
  p3 : BitVec 16
  p4 : BitVec 16
  p5 : BitVec 16
  p6 : BitVec 16
  p7 : BitVec 16
  p8 : BitVec 16
  p9 : BitVec 16
  deriving DecidableEq, Repr, Inhabited

/-- Humidity coefficients: H1, H3 unsigned bytes; H2 signed; H4, H5 a 12-bit packed value in 16 bits; H6 a signed
byte (R20). -/
structure HumCoeffs where
  h1 : Byte
  h2 : BitVec 16
  h3 : Byte
  h4 : BitVec 16
  h5 : BitVec 16
  h6 : Byte
  deriving DecidableEq, Repr, Inhabited

/-- The calibration file CAL, 18 registers (R20). -/
structure Calibration where
  t : TempCoeffs
  p : PressCoeffs
  h : HumCoeffs
  deriving DecidableEq, Repr, Inhabited

/-! ## Bus events (20_memory.md R75) -/

/-- Which settle delay a `DLY` event is (R75); a delay has no duration in the model (R300). -/
inductive DelayKind where
  | edge
  | post
  | poll
  deriving DecidableEq, Repr, Inhabited

/-- One event of the block's bus behaviour (R75). -/
inductive BusEvent where
  | sel
  | desel
  | tx (b : Byte)
  | rx (b : Byte)
  | dly (k : DelayKind)
  deriving DecidableEq, Repr, Inhabited

/-! ## Parameters of the step relation (00_scope.md R9, R10; 10_state.md R49) -/

/-- Which calibration byte holds H1 (R150). -/
inductive H1Source where
  | blockA (k : Fin 26)
  | blockB (k : Fin 8)
  deriving DecidableEq, Repr

/-- What signed 32-bit arithmetic does on overflow (R13, D7). -/
inductive OverflowPolicy where
  | wrap
  | fault
  deriving DecidableEq, Repr

/-- Which compensation bodies COMP_BODY names (R220, D8): the reference bodies of R196, R203, R213, or bodies of which
only R220's properties are known. -/
inductive BodyChoice where
  | reference
  | other
  deriving DecidableEq, Repr

/-- Order of the bits of a byte on the wire (R65); no rule depends on it. -/
inductive BitOrder where
  | msbFirst
  | lsbFirst
  deriving DecidableEq, Repr

/-- The clock mode (R10, D3): the idle level of SCK, and whether a bit is sampled on the second edge. -/
structure SpiMode where
  idleHigh : Bool
  sampleSecondEdge : Bool
  deriving DecidableEq, Repr

/-- What an oversampling selector selects (R101). -/
inductive OsFactor where
  /-- The measurement is skipped. -/
  | skipped
  | x1
  | x2
  | x4
  | x8
  | x16
  deriving DecidableEq, Repr

/-- OS_CODE: the selector code of each factor (R10, R101, D12); a code that is none of these also selects x16. -/
structure OsCodes where
  skipped : BitVec 3
  x1 : BitVec 3
  x2 : BitVec 3
  x4 : BitVec 3
  x8 : BitVec 3
  x16 : BitVec 3
  deriving DecidableEq, Repr

/-- The parameters a claim may name (R9, R10). No step of the machine writes one. -/
structure Params where
  addrId : Byte
  addrCalA : Byte
  addrCalB : Byte
  addrCtrlHum : Byte
  addrStatus : Byte
  addrCtrlMeas : Byte
  addrData : Byte
  osCode : OsCodes
  osrsT : BitVec 3
  osrsP : BitVec 3
  osrsH : BitVec 3
  modeSleep : BitVec 2
  modeForced : BitVec 2
  modeNormal : BitVec 2
  h1Src : H1Source
  overflow : OverflowPolicy
  compBody : BodyChoice
  idStrict : Bool
  pollLimit : Option Nat
  /-- By how many bytes RXBUF_LEN exceeds 26, the longest burst of the block's own sequences (R10, D6). -/
  rxbufExtra : Nat
  rdFill : Byte
  bitOrder : BitOrder
  spiMode : SpiMode
  deriving DecidableEq, Repr

/-! ## The device (10_state.md R45 to R48, 20_memory.md R66 to R74) -/

/-- The device register space as cells, an unlisted address holding the blank byte (R61, R74). -/
abbrev Memory := List Host.Cell

/-- How the device answers: by free bytes (R73), or as the reference device (R74). -/
inductive DeviceKind where
  | oracle
  | reference
  deriving DecidableEq, Repr

/-- The three oversampling selectors as the device holds them (R47). -/
structure Oversampling where
  t : BitVec 3
  p : BitVec 3
  h : BitVec 3
  deriving DecidableEq, Repr

/-- The device's operating mode (R46). -/
inductive DeviceMode where
  | sleep
  | forced
  | normal
  deriving DecidableEq, Repr, Inhabited

/-- The peripheral. `answers` are the bytes an oracle device is known to answer next, oldest first (an input of the
machine); all fields after it belong to the reference device of R74, extended with what R46, R47, R68 and R69 say of
modes, samples and oversampling, and are neither read nor written while `kind = oracle`. -/
structure Device where
  kind : DeviceKind
  answers : List Byte
  /-- The samples its next conversions are known to yield, oldest first, each the bytes of the raw-data region (an input
  of the machine); a byte not listed is free. -/
  samples : List (List Byte)
  /-- REG of R74: cells of the 128-byte register space, in canonical form. -/
  reg : Memory
  /-- PTR of R74, the register pointer of R45. -/
  ptr : BitVec 7
  /-- Bit 7 of the current frame's address byte: the frame reads. -/
  rw : Bool
  /-- The current frame's address byte has arrived. -/
  addressed : Bool
  /-- CONV of R74: status polls until the running conversion completes (R48). -/
  conv : Nat
  /-- N of R74: what a trigger sets CONV to. -/
  convLen : Nat
  /-- R74's "never decreasing": CONV does not count down. -/
  stuck : Bool
  /-- A conversion has ended inside the current frame: its sample enters the raw-data region when the frame ends (R68,
  R78). -/
  sampleDue : Bool
  /-- How many free choices the device has made; the model's own. -/
  picks : Nat
  /-- The operating mode (R46). -/
  opMode : DeviceMode
  pending : Oversampling
  active : Oversampling
  deriving DecidableEq, Repr

/-! ## Arithmetic results and COMP_BODY (00_scope.md R13, 43_compensation.md R220) -/

/-- A value together with "some signed operation on the way to it left the s32 range" (R13, R191). -/
structure Checked (α : Type) where
  val : α
  ovf : Bool
  deriving DecidableEq, Repr, Inhabited

/-- What the temperature body answers: FineTemperature and the temperature (R220 compT). -/
structure TempResult where
  tfine : Checked S32
  t : Checked S32
  deriving DecidableEq, Repr

/-- The record COMP_BODY of three total functions (R220). -/
structure CompBody where
  compT : BitVec 20 → TempCoeffs → TempResult
  compP : BitVec 20 → S32 → PressCoeffs → Checked U32
  compH : BitVec 16 → S32 → HumCoeffs → Checked U32

/-! ## Errors and host-readable registers -/

/-- The five error causes (R259). -/
inductive ErrCause where
  | idMismatch
  | pollTimeout
  | badCmd
  | badSeq
  | arith
  deriving DecidableEq, Repr

/-- The registers of 10_state.md that the host can read while the block is idle (R41, R268). -/
inductive HostReg where
  | calT1 | calT2 | calT3
  | calP1 | calP2 | calP3 | calP4 | calP5 | calP6 | calP7 | calP8 | calP9
  | calH1 | calH2 | calH3 | calH4 | calH5 | calH6
  | calaValid | calbValid
  | adcP | adcT | adcH
  | tfine | tX100 | pX100 | hX1024
  | rxbuf (k : Nat)
  | mT | mP | mH | mAlt | measValid
  | chipId | idSeen
  | mode | osrsT | osrsP | osrsH
  | initDone | cyc | err | upc | busy | pollCnt
  deriving DecidableEq, Repr

/-- What a host read yields: a number (a signed register's own sign kept) or a floating-point value. -/
inductive HostVal where
  | num (v : Int)
  | flt (v : Flt)
  deriving DecidableEq, Repr

end Sys2Proof.Machine
end

