-- ==== Sys2Proof/Machine/Params.lean ====
section
/-! DEFINITION. The constants of spec 00_scope.md R8 and the default parameters of R9 and R10 (codes: 30_encoding.md R100,
R101). -/

namespace Sys2Proof.Machine

/-- LEN_ID (R8). -/
def lenId : Nat := 1

/-- LEN_CALA (R8). -/
def lenCalA : Nat := 26

/-- LEN_CALB (R8). -/
def lenCalB : Nat := 8

/-- LEN_DATA (R8). -/
def lenData : Nat := 8

/-- LEN_STATUS (R8). -/
def lenStatus : Nat := 1

/-- ID_EXPECTED (R8, R110). -/
def idExpected : Byte := 0x60

/-- T_SCALE and P_SCALE (R8). -/
def centiScale : Rat := 100

/-- H_SCALE (R8). -/
def humScale : Rat := 1024

/-- P_SEA, 1013.25 hPa (R8). -/
def pSea : Rat := 101325 / 100

/-- ALT_EXP, 1/5.255 (R8). -/
def altExp : Rat := 1 / (5255 / 1000)

/-- ALT_LAPSE, 0.0065 (R8). -/
def altLapse : Rat := 65 / 10000

/-- ALT_K0, 273.15 (R8). -/
def altK0 : Rat := 27315 / 100

/-- H_CLAMP_MAX (R8). -/
def hClampMax : Int := 419430400

/-- RXBUF_LEN (R10, R26). The source's longest burst always fits: D6. -/
def rxbufLen (cfg : Params) : Nat := lenCalA + cfg.rxbufExtra

/-- The default codes, the table of R101. -/
def defaultOsCodes : OsCodes where
  skipped := 0b000#3
  x1 := 0b001#3
  x2 := 0b010#3
  x4 := 0b011#3
  x8 := 0b100#3
  x16 := 0b101#3

/-- OS_CODE(f) (R10, R101). -/
def osCodeOf (c : OsCodes) : OsFactor → BitVec 3
  | .skipped => c.skipped
  | .x1 => c.x1
  | .x2 => c.x2
  | .x4 => c.x4
  | .x8 => c.x8
  | .x16 => c.x16

/-- The factor a selector code selects (R101): 0b110 and 0b111, which are no factor's own code, select x16 too. -/
def osFactorOf (c : OsCodes) (v : BitVec 3) : OsFactor :=
  if v = c.skipped then .skipped
  else if v = c.x1 then .x1
  else if v = c.x2 then .x2
  else if v = c.x4 then .x4
  else if v = c.x8 then .x8
  else .x16

/-- The defaults of R10 under the given codes: x4 for temperature and pressure, x1 for humidity (R8, R158). -/
def paramsOfCodes (c : OsCodes) : Params where
  addrId := 0xD0
  addrCalA := 0x88
  addrCalB := 0xE1
  addrCtrlHum := 0xF2
  addrStatus := 0xF3
  addrCtrlMeas := 0xF4
  addrData := 0xF7
  osCode := c
  osrsT := osCodeOf c .x4
  osrsP := osCodeOf c .x4
  osrsH := osCodeOf c .x1
  modeSleep := 0b00#2
  modeForced := 0b01#2
  modeNormal := 0b11#2
  h1Src := .blockA 25
  overflow := .wrap
  compBody := .reference
  idStrict := false
  pollLimit := none
  rxbufExtra := 0
  rdFill := 0x00
  bitOrder := .msbFirst
  spiMode := { idleHigh := false, sampleSecondEdge := false }

/-- The defaults of R10. -/
def defaultParams : Params := paramsOfCodes defaultOsCodes

end Sys2Proof.Machine
end

