-- ==== Sys2Proof/Syntax.lean ====
section
/-! DEFINITION. The instructions: the two wire frames and the 17 commands (spec 30_encoding.md R90 to R92, R102, R103), and
the words by which they are presented. -/

namespace Sys2Proof

/-- One constructor per row of the opcode table. -/
inductive Instr where
  /-- WIRE_W: write frame, 7-bit register address and data byte (R91). -/
  | wireW (a : BitVec 7) (d : Byte)
  /-- WIRE_R: read frame, 7-bit register address; the length is not transmitted (R92, R94). -/
  | wireR (a : BitVec 7) (n : Byte)
  /-- BWR a, d (R123). -/
  | bwr (a : Byte) (d : Byte)
  /-- BRD a, n (R124). -/
  | brd (a : Byte) (n : Byte)
  /-- INIT m (R160). -/
  | init (m : BitVec 2)
  /-- MEAS (R172). -/
  | meas
  /-- RDID (R141). -/
  | rdid
  /-- LDCALA (R143). -/
  | ldcala
  /-- LDCALB (R146). -/
  | ldcalb
  /-- WROS (R155). -/
  | wros
  /-- WRHUM (R156). -/
  | wrhum
  /-- WRCTL (R157). -/
  | wrctl
  /-- POLL (R174). -/
  | poll
  /-- RDRAW (R176). -/
  | rdraw
  /-- CMPT (R196). -/
  | cmpt
  /-- CMPP (R203). -/
  | cmpp
  /-- CMPH (R213). -/
  | cmph
  /-- SCALE (R232). -/
  | scale
  /-- ALT (R236). -/
  | alt
  deriving DecidableEq, Repr

/-- What is presented to the block: a command word (R102), or a wire frame handed to the Bus Transport, its address byte
and one byte more: the data byte of a write, the burst length of a read (R91, R92, R94). -/
inductive Request where
  | cmd (w : BitVec 24)
  | frame (b0 b1 : Byte)
  deriving DecidableEq, Repr

/-- Why a word is illegal (R105). -/
inductive DecodeError where
  /-- (a) an operation code not in the table of R103. -/
  | unknownOp
  /-- (b) a non-zero unused operand field. -/
  | operandNotZero
  /-- (c) a burst longer than RXBUF_LEN. -/
  | burstTooLong
  /-- (d) INIT with mode code 0b10. -/
  | modeReserved
  deriving DecidableEq, Repr

/-- What the host does next: present a request, or assert RST after that many more steps (R41, R280). -/
inductive HostInput where
  | present (r : Request)
  | rst (after : Nat)
  deriving DecidableEq, Repr

end Sys2Proof
end

