-- ==== Sys2Proof/WellFormed.lean ====
section
/-! DEFINITION. Which instructions have a word: the operand checks of spec 30_encoding.md R104, R105. -/

namespace Sys2Proof

/-- A burst length that a receive buffer of `len` bytes holds (R105 c, R129). -/
def burstFits (len : Nat) (n : Byte) : Bool := n.toNat ≤ len

/-- One of the source's three modes (R105 d). -/
def modeLegal (m : BitVec 2) : Bool := m != 2#2

/-- The operands have a legal encoding, RXBUF_LEN being `len` (R105). -/
def Instr.wf (len : Nat) : Instr → Bool
  | .wireW _ _ => true
  | .wireR _ n => burstFits len n
  | .bwr _ _ => true
  | .brd _ n => burstFits len n
  | .init m => modeLegal m
  | .meas => true
  | .rdid => true
  | .ldcala => true
  | .ldcalb => true
  | .wros => true
  | .wrhum => true
  | .wrctl => true
  | .poll => true
  | .rdraw => true
  | .cmpt => true
  | .cmpp => true
  | .cmph => true
  | .scale => true
  | .alt => true

end Sys2Proof
end

