-- ==== Sys2Proof/Decode.lean ====
section
/-! DEFINITION. Decoding of command words and wire frames, total, an illegal word rejected by name, and the encoder (spec
30_encoding.md R91 to R94, R102 to R105). -/

namespace Sys2Proof

/-- `CMD[23:16]` (R102). -/
def cmdOp (w : BitVec 24) : Byte := w.extractLsb' 16 8

/-- `CMD[15:8]` (R102). -/
def cmdA (w : BitVec 24) : Byte := w.extractLsb' 8 8

/-- `CMD[7:0]` (R102). -/
def cmdB (w : BitVec 24) : Byte := w.extractLsb' 0 8

/-- A command without operands requires A = B = 0 (R104). -/
def decodePlain (i : Instr) (a b : Byte) : Except DecodeError Instr :=
  if a = 0 ∧ b = 0 then .ok i else .error .operandNotZero

/-- INIT: A = 0, B[7:2] = 0, and a mode code of the source's three (R104, R105). -/
def decodeInit (a b : Byte) : Except DecodeError Instr :=
  if a = 0 ∧ b.extractLsb' 2 6 = 0 then
    if modeLegal (b.extractLsb' 0 2) then .ok (.init (b.extractLsb' 0 2)) else .error .modeReserved
  else .error .operandNotZero

/-- The operation-code map (R103), RXBUF_LEN being `len`. -/
def decodeOp (len : Nat) (op a b : Byte) : Except DecodeError Instr :=
  if op = 0x01 then .ok (.bwr a b)
  else if op = 0x02 then (if burstFits len b then .ok (.brd a b) else .error .burstTooLong)
  else if op = 0x10 then decodeInit a b
  else if op = 0x11 then decodePlain .meas a b
  else if op = 0x20 then decodePlain .rdid a b
  else if op = 0x21 then decodePlain .ldcala a b
  else if op = 0x22 then decodePlain .ldcalb a b
  else if op = 0x23 then decodePlain .wros a b
  else if op = 0x24 then decodePlain .wrhum a b
  else if op = 0x25 then decodePlain .wrctl a b
  else if op = 0x30 then decodePlain .poll a b
  else if op = 0x31 then decodePlain .rdraw a b
  else if op = 0x40 then decodePlain .cmpt a b
  else if op = 0x41 then decodePlain .cmpp a b
  else if op = 0x42 then decodePlain .cmph a b
  else if op = 0x50 then decodePlain .scale a b
  else if op = 0x51 then decodePlain .alt a b
  else .error .unknownOp

/-- A wire frame: bit 7 of the address byte tells the direction (R91, R92, R94). -/
def decodeFrame (len : Nat) (b0 b1 : Byte) : Except DecodeError Instr :=
  if b0.extractLsb' 7 1 = 0 then .ok (.wireW (b0.extractLsb' 0 7) b1)
  else if burstFits len b1 then .ok (.wireR (b0.extractLsb' 0 7) b1)
  else .error .burstTooLong

/-- The decoder: total on any request (R102 to R105), RXBUF_LEN being `len`. -/
def decode (len : Nat) : Request → Except DecodeError Instr
  | .cmd w => decodeOp len (cmdOp w) (cmdA w) (cmdB w)
  | .frame b0 b1 => decodeFrame len b0 b1

/-- `{OP, A, B}` (R102). -/
def cmdWord (op a b : Byte) : Request := .cmd (op ++ a ++ b)

/-- The words of an instruction (R91, R92, R103, R104). -/
def encode : Instr → Request
  | .wireW a d => .frame (0#1 ++ a) d
  | .wireR a n => .frame (1#1 ++ a) n
  | .bwr a d => cmdWord 0x01 a d
  | .brd a n => cmdWord 0x02 a n
  | .init m => cmdWord 0x10 0 (0#6 ++ m)
  | .meas => cmdWord 0x11 0 0
  | .rdid => cmdWord 0x20 0 0
  | .ldcala => cmdWord 0x21 0 0
  | .ldcalb => cmdWord 0x22 0 0
  | .wros => cmdWord 0x23 0 0
  | .wrhum => cmdWord 0x24 0 0
  | .wrctl => cmdWord 0x25 0 0
  | .poll => cmdWord 0x30 0 0
  | .rdraw => cmdWord 0x31 0 0
  | .cmpt => cmdWord 0x40 0 0
  | .cmpp => cmdWord 0x41 0 0
  | .cmph => cmdWord 0x42 0 0
  | .scale => cmdWord 0x50 0 0
  | .alt => cmdWord 0x51 0 0

/-- The request that a word of the opcode table stands for: 24 bits are a command word, 16 bits a write frame with its
address byte in the high half, 8 bits the address byte of a read frame, whose length is then 0. -/
def requestOfTable (nbits w : Nat) : Option Request :=
  if nbits = 24 then some (.cmd (BitVec.ofNat 24 w))
  else if nbits = 16 then some (.frame (BitVec.ofNat 8 (w / 256)) (BitVec.ofNat 8 w))
  else if nbits = 8 then some (.frame (BitVec.ofNat 8 w) 0)
  else none

/-- The decoder's answer as an option, RXBUF_LEN being `len`. -/
def decode? (len : Nat) (r : Request) : Option Instr :=
  match decode len r with
  | .ok i => some i
  | .error _ => none

/-- The instruction the decoder reads, under the default RXBUF_LEN, from a word numbered as the opcode table numbers it. -/
def decodeTableWord (nbits w : Nat) : Option Instr :=
  match requestOfTable nbits w with
  | some r => decode? (Machine.rxbufLen Machine.defaultParams) r
  | none => none

end Sys2Proof
end

