-- ==== Sys2Proof/Config.lean ====
section
/-! DEFINITION. The free values and open parameters of the spec: constants without a body, of which nothing can be proved
(spec 92_eei_decisions.md "Open parameters", 93_implementation_defined.md part 1). -/

namespace Sys2Proof

open Sys2Proof.Machine

/-- The oracle: the byte the device answers, by the number of the draw and the event history (R73). -/
opaque Config.oracle : Nat → List BusEvent → Byte

/-- The register "holds no value" (R50): the bits it is found with, of which nothing is known. -/
opaque Config.noValue : HostReg → (w : Nat) → BitVec w

/-- The Measurement register "holds no value" (R50). -/
opaque Config.noFlt : HostReg → Flt

/-- The rounding of FLT on non-zero numbers, as the number it stores (R10 FLT, R15, D21). -/
opaque Config.rndNonzero : Rat → Rat

/-- Numerator less one of the value POW gives for a positive base other than 1 (R236, D22). -/
opaque Config.powNum : Rat → Rat → Nat

/-- Denominator less one of the value POW gives for a positive base other than 1 (R236, D22). -/
opaque Config.powDen : Rat → Rat → Nat

/-- The value ALT stores where its formula has none (R237), by the number of the draw. -/
opaque Config.freeAlt : Nat → Flt

/-- PTR_WRAP: where the device's pointer goes past wire address 0x7F (R76, D30). -/
opaque Config.ptrWrap : BitVec 7

/-- Byte i of the sample a conversion of the reference device yields, by the number of the choice: what is measured is
free (R48, R68). -/
opaque Config.sample : Nat → Nat → Byte

/-- Whether a free-running conversion has ended since the last frame, by the number of the choice (R48, R69). -/
opaque Config.freeRunEnds : Nat → Bool

/-- Whether a free-running device is converting when it is read, by the number of the choice (R48, R69). -/
opaque Config.freeRunBusy : Nat → Bool

/-- The mode the reference device takes on a mode code that is none of the three the parameters name, 0b10 by default:
R100 says that the device family then also selects Forced, U17 leaves the reaction outside the model. -/
opaque Config.otherCodeMode : BitVec 2 → DeviceMode

/-- T_EDGE, T_POST, T_POLL: lengths without a value (R10, R300). No rule reads one. -/
opaque Config.delayLength : DelayKind → Nat

/-- The first term of another temperature body (R220). -/
opaque Config.otherVar1 : BitVec 20 → TempCoeffs → Checked S32

/-- The second term of another temperature body (R220). -/
opaque Config.otherVar2 : BitVec 20 → TempCoeffs → Checked S32

/-- The denominator term of another pressure body (R220). -/
opaque Config.otherDenominator : BitVec 20 → S32 → PressCoeffs → Checked U32

/-- The intermediate that another pressure body compares with 0x80000000 (R220). -/
opaque Config.otherDividend : BitVec 20 → S32 → PressCoeffs → Checked U32

/-- What another pressure body makes of its quotient (R220). -/
opaque Config.otherAfterDivision : U32 → BitVec 20 → S32 → PressCoeffs → Checked U32

/-- The accumulator that another humidity body clamps (R220). -/
opaque Config.otherAccumulator : BitVec 16 → S32 → HumCoeffs → Checked S32

end Sys2Proof
end

