-- ==== Sys2Proof/Machine/State.lean ====
section
/-! DEFINITION. The state of the block and of its environment, its reset, and the reasons a step can stop (spec 10_state.md,
70_reset_and_hazards.md R280, R281). -/

namespace Sys2Proof.Machine

/-- The whole state. Registers of the block carry the spec's names in small letters. -/
@[ext]
structure State where
  /-- Parameters of the step relation (10_state.md R49); no step writes them. -/
  cfg : Params
  /-- CAL, the calibration file (R20). -/
  cal : Calibration
  /-- CALA_VALID (R22). -/
  calaValid : Bool
  /-- CALB_VALID (R22). -/
  calbValid : Bool
  /-- ADC_P (R23). -/
  adcP : BitVec 20
  /-- ADC_T (R23). -/
  adcT : BitVec 20
  /-- ADC_H (R23). -/
  adcH : BitVec 16
  /-- TFINE (R24). -/
  tfine : S32
  /-- T_X100 (R25). -/
  tX100 : S32
  /-- P_X100 (R25). -/
  pX100 : U32
  /-- H_X1024 (R25). -/
  hX1024 : U32
  /-- RXBUF, RXBUF_LEN bytes (R26). -/
  rxbuf : List Byte
  /-- How many leading bytes of RXBUF a burst read has written since reset (R50); the model's own. -/
  rxHigh : Nat
  /-- M_T (R28). -/
  mT : Flt
  /-- M_P (R28). -/
  mP : Flt
  /-- M_H (R28). -/
  mH : Flt
  /-- M_ALT (R28). -/
  mAlt : Flt
  /-- MEAS_VALID (R29, R38). -/
  measValid : Bool
  /-- CHIP_ID (R33). -/
  chipId : Byte
  /-- ID_SEEN (R33). -/
  idSeen : Bool
  /-- MODE (R34). -/
  mode : BitVec 2
  /-- INIT_DONE (R36). -/
  initDone : Bool
  /-- CYC (R37). -/
  cyc : BitVec 3
  /-- ERR (R39). -/
  err : BitVec 5
  /-- UPC (R40). -/
  upc : BitVec 5
  /-- BUSY (R41). -/
  busy : Bool
  /-- POLL_CNT (R42). -/
  pollCnt : Nat
  /-- A POLL is inside its loop (R174); the model's own, since UPC does not tell for a host-issued POLL. -/
  polling : Bool
  /-- CSN, true = deasserted (R43). -/
  csn : Bool
  /-- SCK between byte times (R43). -/
  sck : Bool
  /-- SDO: the last byte shifted out (R43, R125). -/
  sdo : Byte
  /-- HIST, oldest event first (R44). -/
  hist : List BusEvent
  /-- The peripheral (R45 to R48). -/
  dev : Device
  /-- What the host does next, first thing first (R41, R108, R280); the model's own. -/
  host : List HostInput
  /-- How many free values have been drawn; the model's own. -/
  draws : Nat
  deriving DecidableEq, Repr

/-- Why the machine stops. -/
inductive Fault where
  /-- Raised by `step` when BUSY = 1 and UPC is a value R40 calls reserved, or names no step, or no command is
  running. Safe: no reachable state has such a UPC. -/
  | reservedUpc
  deriving DecidableEq, Repr

/-- Why an instruction has no meaning. -/
inductive Refusal where
  /-- Answered by an arm of `exec` whose instruction has no meaning yet. Safe. No arm answers it now. -/
  | notModelled (mnemonic : String)
  deriving DecidableEq, Repr

/-- How a micro-operation ends: completed; a poll that saw the device busy and polls again (R174); or `raise E` (R256). -/
inductive MicroOut where
  | done (s : State)
  | again (s : State)
  | raised (e : ErrCause) (s : State)
  deriving DecidableEq, Repr

/-- A calibration file that holds no value (R50). -/
def Calibration.noValue : Calibration where
  t := { t1 := Config.noValue .calT1 16, t2 := Config.noValue .calT2 16, t3 := Config.noValue .calT3 16 }
  p := { p1 := Config.noValue .calP1 16, p2 := Config.noValue .calP2 16, p3 := Config.noValue .calP3 16,
         p4 := Config.noValue .calP4 16, p5 := Config.noValue .calP5 16, p6 := Config.noValue .calP6 16,
         p7 := Config.noValue .calP7 16, p8 := Config.noValue .calP8 16, p9 := Config.noValue .calP9 16 }
  h := { h1 := Config.noValue .calH1 8, h2 := Config.noValue .calH2 16, h3 := Config.noValue .calH3 8,
         h4 := Config.noValue .calH4 16, h5 := Config.noValue .calH5 16, h6 := Config.noValue .calH6 8 }

/-- A receive buffer of `len` bytes none of which holds a value (R50). -/
def rxbufNoValue (len : Nat) : List Byte := (List.range len).map fun k => Config.noValue (.rxbuf k) 8

/-- The device the block finds: R50 leaves it unspecified, so it answers by the oracle (R73). -/
def Device.unknown : Device where
  kind := .oracle
  answers := []
  samples := []
  reg := []
  ptr := 0
  rw := false
  addressed := false
  conv := 0
  convLen := 0
  stuck := false
  sampleDue := false
  picks := 0
  opMode := .sleep
  pending := { t := 0, p := 0, h := 0 }
  active := { t := 0, p := 0, h := 0 }

/-- The state right after reset (R50), with the default parameters, an unspecified device and a host that does nothing. -/
def State.reset : State where
  cfg := defaultParams
  cal := .noValue
  calaValid := false
  calbValid := false
  adcP := Config.noValue .adcP 20
  adcT := Config.noValue .adcT 20
  adcH := Config.noValue .adcH 16
  tfine := Config.noValue .tfine 32
  tX100 := Config.noValue .tX100 32
  pX100 := Config.noValue .pX100 32
  hX1024 := Config.noValue .hX1024 32
  rxbuf := rxbufNoValue (rxbufLen defaultParams)
  rxHigh := 0
  mT := Config.noFlt .mT
  mP := Config.noFlt .mP
  mH := Config.noFlt .mH
  mAlt := Config.noFlt .mAlt
  measValid := false
  chipId := Config.noValue .chipId 8
  idSeen := false
  mode := defaultParams.modeSleep
  initDone := false
  cyc := 0
  err := 0
  upc := 0
  busy := false
  pollCnt := 0
  polling := false
  csn := true
  sck := defaultParams.spiMode.idleHigh
  sdo := defaultParams.rdFill
  hist := []
  dev := .unknown
  host := []
  draws := 0

end Sys2Proof.Machine
end

