-- ==== Sys2Proof/Machine/Flags.lean ====
section
/-! DEFINITION. The control bits: error codes, micro-program counter fields, validity, and the preconditions on CYC and the
flags (spec 10_state.md R22, R37, R39, R40; 43_compensation.md R192; 44_output.md R231; 60_exceptions.md R259). -/

namespace Sys2Proof.Machine

/-- The code of a cause is its bit number in ERR (R39, R259). -/
def errCode : ErrCause → Nat
  | .idMismatch => 0
  | .pollTimeout => 1
  | .badCmd => 2
  | .badSeq => 3
  | .arith => 4

/-- ERR with the cause's bit set, the others as they were (R39). -/
def errSet (err : BitVec 5) (e : ErrCause) : BitVec 5 := err ||| (1#5 <<< errCode e)

/-- `UPC[4:3]`: the running micro-program (R40). -/
def upcProg (upc : BitVec 5) : BitVec 2 := upc.extractLsb' 3 2

/-- `UPC[2:0]`: the step about to execute (R40). -/
def upcIdx (upc : BitVec 5) : BitVec 3 := upc.extractLsb' 0 3

/-- `{prog, idx}` (R40). -/
def upcOf (prog : BitVec 2) (idx : BitVec 3) : BitVec 5 := prog ++ idx

/-- The micro-program of INIT (R40). -/
def progInit : BitVec 2 := 1#2

/-- The micro-program of MEAS (R40). -/
def progMeas : BitVec 2 := 2#2

/-- CAL_VALID (R22). -/
def calValid (s : State) : Bool := s.calaValid && s.calbValid

/-- CMPT's precondition (R192). -/
def readyT (s : State) : Bool := s.cyc == 1#3 && s.calaValid

/-- CMPP's precondition (R192). -/
def readyP (s : State) : Bool := s.cyc == 2#3 && s.calaValid

/-- CMPH's precondition (R192). -/
def readyH (s : State) : Bool := s.cyc == 3#3 && calValid s

/-- SCALE's precondition (R231). -/
def readyScale (s : State) : Bool := s.cyc == 4#3

/-- ALT's precondition (R231). -/
def readyAlt (s : State) : Bool := s.cyc == 5#3

/-- The overflow raises ARITH (R13, R257). -/
def arithFault (cfg : Params) (ovf : Bool) : Bool := cfg.overflow == .fault && ovf

end Sys2Proof.Machine
end

