-- ==== Sys2Proof/Machine/Operands.lean ====
section
/-! DEFINITION. The operand forms: address bytes, control and status values, and the unpacking of the calibration blocks and
of the raw burst (spec 30_encoding.md R93 to R99, 41_init_calibration.md R143 to R150, 42_measure.md R176, R177). -/

namespace Sys2Proof.Machine

/-- Address byte of a write frame: bit 7 cleared (R93). -/
def writeByte (a : Byte) : Byte := a &&& 0x7F

/-- Address byte of a read frame: bit 7 set (R93). -/
def readByte (a : Byte) : Byte := a ||| 0x80

/-- The device location a register address names, `a[6:0]` (R61). -/
def wireAddr (a : Byte) : BitVec 7 := a.extractLsb' 0 7

/-- `pack_ctrl` (R96). -/
def packCtrl (osrsT osrsP : BitVec 3) (mode : BitVec 2) : Byte :=
  (osrsT.setWidth 8 <<< 5) ||| (osrsP.setWidth 8 <<< 2) ||| mode.setWidth 8

/-- `v[7:5]` of a combined control value (R95, R97). -/
def ctrlT (v : Byte) : BitVec 3 := v.extractLsb' 5 3

/-- `v[4:2]` of a combined control value (R95, R97). -/
def ctrlP (v : Byte) : BitVec 3 := v.extractLsb' 2 3

/-- `v[1:0]` of a combined control value (R95, R97). -/
def ctrlMode (v : Byte) : BitVec 2 := v.extractLsb' 0 2

/-- `unpack_ctrl` (R97). -/
def unpackCtrl (v : Byte) : BitVec 3 × BitVec 3 × BitVec 2 := (ctrlT v, ctrlP v, ctrlMode v)

/-- `pack_hum` (R98). -/
def packHum (osrsH : BitVec 3) : Byte := osrsH.setWidth 8

/-- Status bit 3, conversion in progress (R99). -/
def statusBusy (v : Byte) : Bool := v.getLsbD 3

/-- Byte k of a burst. -/
def byteAt (bs : List Byte) (k : Nat) : Byte := bs.getD k 0

/-- The little-endian pair at offsets k and k + 1 (R63, R144). -/
def pairAt (bs : List Byte) (k : Nat) : BitVec 16 := byteAt bs (k + 1) ++ byteAt bs k

/-- H4 = (byte0 << 4) | (byte1 & 0xF) on unsigned bytes (R148). -/
def unpackH4 (b0 b1 : Byte) : BitVec 16 := (b0.setWidth 16 <<< 4) ||| (b1 &&& 0xF).setWidth 16

/-- H5 = (byte1 >> 4) | (byte2 << 4) on unsigned bytes (R149). -/
def unpackH5 (b1 b2 : Byte) : BitVec 16 := (b1 >>> 4).setWidth 16 ||| (b2.setWidth 16 <<< 4)

/-- A 20-bit raw value from its three bytes, the first the most significant, the low nibble of the third dropped (R177). -/
def unpackRaw20 (b0 b1 b2 : Byte) : BitVec 20 :=
  (b0.setWidth 20 <<< 12) ||| (b1.setWidth 20 <<< 4) ||| (b2 >>> 4).setWidth 20

/-- A 16-bit raw value from its two bytes, the first the more significant (R177). -/
def unpackRaw16 (b0 b1 : Byte) : BitVec 16 := b0 ++ b1

/-- T1 to T3 of block A (R143, R145). -/
def tempOfBlockA (a : List Byte) : TempCoeffs := { t1 := pairAt a 0, t2 := pairAt a 2, t3 := pairAt a 4 }

/-- P1 to P9 of block A (R143, R145). -/
def pressOfBlockA (a : List Byte) : PressCoeffs :=
  { p1 := pairAt a 6, p2 := pairAt a 8, p3 := pairAt a 10, p4 := pairAt a 12, p5 := pairAt a 14,
    p6 := pairAt a 16, p7 := pairAt a 18, p8 := pairAt a 20, p9 := pairAt a 22 }

/-- H1 after block A is read: its byte k when H1_SRC = (A, k), else as it was (R143, R150). -/
def h1AfterA (src : H1Source) (a : List Byte) (old : Byte) : Byte :=
  match src with
  | .blockA k => byteAt a k.val
  | .blockB _ => old

/-- H1 after block B is read: its byte k when H1_SRC = (B, k), else as it was (R146, R150). -/
def h1AfterB (src : H1Source) (b : List Byte) (old : Byte) : Byte :=
  match src with
  | .blockA _ => old
  | .blockB k => byteAt b k.val

/-- CAL after LDCALA (R143). -/
def calAfterA (src : H1Source) (a : List Byte) (c : Calibration) : Calibration :=
  { c with t := tempOfBlockA a, p := pressOfBlockA a, h := { c.h with h1 := h1AfterA src a c.h.h1 } }

/-- CAL after LDCALB (R146). -/
def calAfterB (src : H1Source) (b : List Byte) (c : Calibration) : Calibration :=
  { c with h :=
    { h1 := h1AfterB src b c.h.h1
      h2 := pairAt b 0
      h3 := byteAt b 2
      h4 := unpackH4 (byteAt b 3) (byteAt b 4)
      h5 := unpackH5 (byteAt b 4) (byteAt b 5)
      h6 := byteAt b 6 } }

end Sys2Proof.Machine
end

