-- ==== Sys2Proof/Machine/Ops.lean ====
section
/-! DEFINITION. The shared operations: device memory, the device's side of a frame, the oracle, bus events and transactions,
`raise` and the completion of a command (spec 20_memory.md R61 to R75, 40_bus_transport.md R121 to R125, 60_exceptions.md
R256, 70_reset_and_hazards.md R280, R281). -/

namespace Sys2Proof.Machine

/-! ## Device memory -/

/-- What a location of the reference device holds that no test has filled and no frame has written. -/
def memBlank : Byte := 0x00

/-- The byte at an address. -/
def memRead : Memory → Nat → Byte
  | [], _ => memBlank
  | c :: m, a => if c.1 = a then c.2 else memRead m a

/-- Store a byte, keeping the canonical form. -/
def memWrite : Memory → Nat → Byte → Memory
  | [], a, v => if v = memBlank then [] else [(a, v)]
  | c :: m, a, v =>
    if a < c.1 then (if v = memBlank then c :: m else (a, v) :: c :: m)
    else if a = c.1 then (if v = memBlank then m else (a, v) :: m)
    else c :: memWrite m a v

/-- Addresses strictly rising from `lo`, below 128, and no blank cell. -/
def memWfFrom : Nat → Memory → Bool
  | _, [] => true
  | lo, c :: m => decide (lo ≤ c.1) && decide (c.1 < 128) && c.2 != memBlank && memWfFrom (c.1 + 1) m

/-- The canonical form of a device memory (R61: 128 locations). -/
def memWf (m : Memory) : Bool := memWfFrom 0 m

/-! ## The reference device (R74, R45 to R48, R66 to R70) -/

/-- Status bit 3 set or cleared in the device's status register (R68, R74). -/
def devStatusBit (cfg : Params) (on : Bool) (d : Device) : Device :=
  let a := (wireAddr cfg.addrStatus).toNat
  let v := memRead d.reg a
  { d with reg := memWrite d.reg a (if on then v ||| 0x08 else v &&& 0xF7) }

/-- The pointer after a data byte (R45, R66); past 0x7F it is PTR_WRAP (R76). -/
def devNextPtr (p : BitVec 7) : BitVec 7 := if p = 0x7F#7 then Config.ptrWrap else p + 1

/-- The n locations a burst from `p` on reads, in that order (R66). -/
def devRegion : Nat → BitVec 7 → List (BitVec 7)
  | 0, _ => []
  | n + 1, p => p :: devRegion n (devNextPtr p)

/-- The locations of the raw-data region (R62). -/
def devDataRegion (cfg : Params) : List (BitVec 7) := devRegion lenData (wireAddr cfg.addrData)

/-- Bytes stored in locations, one in each. -/
def memStore : List (BitVec 7 × Byte) → Memory → Memory
  | [], m => m
  | c :: cs, m => memStore cs (memWrite m c.1.toNat c.2)

/-- Byte i of the next sample: the one listed, or a free one (R48, R68). -/
def devSampleByte (d : Device) (i : Nat) : Byte := (d.samples.headD []).getD i (Config.sample d.picks i)

/-- The next sample, as many bytes as the raw-data region has (R62, R68). -/
def devSample (d : Device) : List Byte := (List.range lenData).map (devSampleByte d)

/-- The raw-data region takes a new sample (R68). -/
def devNewSample (cfg : Params) (d : Device) : Device :=
  { d with
    reg := memStore ((devDataRegion cfg).zip (devSample d)) d.reg
    samples := d.samples.tail
    picks := d.picks + 1
    sampleDue := false }

/-- The mode a written code selects. DESIGN CHOICE (log 5): for a code that is none of the three the parameters name,
0b10 by default, which one is free. -/
def devModeOf (cfg : Params) (m : BitVec 2) : DeviceMode :=
  if m = cfg.modeForced then .forced
  else if m = cfg.modeNormal then .normal
  else if m = cfg.modeSleep then .sleep
  else Config.otherCodeMode m

/-- A conversion is over: bit 3 clears, its sample is due, and a device in Forced mode is back in Sleep; a mode written
meanwhile stays (R46, R68, R69, R74). DESIGN CHOICE (log 5): the device keeps its oversampling and its registers over the
return to Sleep, of which R269 says that it is not stated. -/
def devComplete (cfg : Params) (d : Device) : Device :=
  devStatusBit cfg false
    { d with conv := 0, sampleDue := true, opMode := if d.opMode = .forced then .sleep else d.opMode }

/-- A combined control value taken in: the mode, and what was pending comes into effect; the oversampling written with
the Sleep code is itself pending until the next such write, as R286 (b) says of WROS (R46, R47, R70, R79). DEDUCED
(log 5). -/
def devConfigure (cfg : Params) (v : Byte) (d : Device) : Device :=
  let p : Oversampling := { d.pending with t := ctrlT v, p := ctrlP v }
  let mode := devModeOf cfg (ctrlMode v)
  { d with opMode := mode, pending := p, active := if mode = .sleep then d.pending else p }

/-- A Forced write triggers one conversion of N polls; with N = 0 it is over at once (R68, R74). DESIGN CHOICE (log 5): where
an earlier conversion still counts, CONV starts again at N as R74 says, and the earlier one yields no sample. -/
def devTrigger (cfg : Params) (d : Device) : Device :=
  if d.convLen = 0 then devComplete cfg d else devStatusBit cfg true { d with conv := d.convLen }

/-- A Sleep write ends free-running: unless a triggered conversion is still counting, bit 3 clears (R69). DESIGN CHOICE
(log 5). -/
def devIdle (cfg : Params) (was : DeviceMode) (d : Device) : Device :=
  if was = .normal ∧ d.conv = 0 then devStatusBit cfg false d else d

/-- A write to the combined measurement-control register: a Forced write triggers a conversion, a Normal write starts
free-running ones, and Sleep idles (R67 to R70, R79). DESIGN CHOICE (log 5): a free-running conversion in progress at a
Forced or a Sleep write yields no sample, and a Normal write in Normal mode leaves the free-running to go on. -/
def devControl (cfg : Params) (v : Byte) (d : Device) : Device :=
  let d1 := devConfigure cfg v d
  match d1.opMode with
  | .forced => devTrigger cfg d1
  | .normal => devStatusBit cfg true d1
  | .sleep => devIdle cfg d.opMode d1

/-- The data byte of a write frame is stored in the location the frame names (R67, R74). -/
def devStore (cfg : Params) (v : Byte) (d : Device) : Device :=
  let d1 := { d with reg := memWrite d.reg d.ptr.toNat v }
  if d.ptr = wireAddr cfg.addrCtrlMeas then devControl cfg v d1
  else if d.ptr = wireAddr cfg.addrCtrlHum then
    { d1 with pending := { d.pending with h := v.extractLsb' 0 3 } }
  else d1

/-- A byte the block sends: the first of a frame is the address byte, the second of a write frame is data (R74). -/
def devTx (cfg : Params) (b : Byte) (d : Device) : Device :=
  if d.addressed then (if d.rw then d else devStore cfg b d)
  else { d with ptr := wireAddr b, rw := b.getLsbD 7, addressed := true }

/-- One poll less to go; at 0 the conversion is over (R74). -/
def devCountOne (cfg : Params) (d : Device) : Device :=
  if d.conv = 1 then devComplete cfg d else { d with conv := d.conv - 1 }

/-- A poll of the status register counts a running conversion down, unless the device is stuck (R74). -/
def devCountDown (cfg : Params) (d : Device) : Device :=
  if d.ptr = wireAddr cfg.addrStatus ∧ d.conv ≠ 0 ∧ d.stuck = false then devCountOne cfg d else d

/-- The device after it has answered a byte (R74). -/
def devAfterRx (cfg : Params) (d : Device) : Device :=
  { devCountDown cfg d with ptr := devNextPtr d.ptr }

/-- A sample that is due enters the raw-data region (R68). -/
def devDeliver (cfg : Params) (d : Device) : Device := if d.sampleDue then devNewSample cfg d else d

/-- The status bit of a free-running device: free, but set while a triggered conversion counts (R48, R69, R74). -/
def devFreeStatus (cfg : Params) (busy : Bool) (d : Device) : Device :=
  if d.conv = 0 then devStatusBit cfg busy d else d

/-- A free-running conversion has ended, and its sample is stored, or none has. -/
def devFreeSample (cfg : Params) (ends : Bool) (d : Device) : Device :=
  { d with
    reg := if ends then (devNewSample cfg d).reg else d.reg
    samples := if ends then d.samples.tail else d.samples
    picks := d.picks + 1 }

/-- In Normal mode the device converts on, in its own time: since the last frame a conversion may have ended, and one may
be running (R48, R69). DESIGN CHOICE (log 5): that time passes between frames, and a stuck device has none. -/
def devFreeRun (cfg : Params) (d : Device) : Device :=
  if d.opMode = .normal ∧ d.stuck = false then
    devFreeStatus cfg (Config.freeRunBusy d.picks) (devFreeSample cfg (Config.freeRunEnds d.picks) d)
  else d

/-- The end of a frame: what has been measured meanwhile is stored now, so that a burst reads one instant (R78). -/
def devEndFrame (cfg : Params) (d : Device) : Device := devFreeRun cfg (devDeliver cfg d)

/-- What a device of the reference kind makes of a select edge or a byte sent to it; a device of the oracle kind keeps no
state of its own. -/
def devObserve (cfg : Params) (e : BusEvent) (d : Device) : Device :=
  match d.kind, e with
  | .reference, .sel => { d with addressed := false }
  | .reference, .tx b => devTx cfg b d
  | .reference, .desel => devEndFrame cfg d
  | _, _ => d

/-! ## The oracle (R73) -/

/-- `oracle()`: one byte drawn from the device. -/
def oracle (s : State) : Byte × State :=
  match s.dev.kind with
  | .reference => (memRead s.dev.reg s.dev.ptr.toNat, { s with dev := devAfterRx s.cfg s.dev })
  | .oracle =>
    match s.dev.answers with
    | b :: bs => (b, { s with dev := { s.dev with answers := bs } })
    | [] => (Config.oracle s.draws s.hist, { s with draws := s.draws + 1 })

/-! ## Bus events and transactions (R75, R121 to R125) -/

/-- `emit(e)`: the event joins HIST, and the device sees it. -/
def emit (e : BusEvent) (s : State) : State :=
  { s with hist := s.hist ++ [e], dev := devObserve s.cfg e s.dev }

/-- `select()` (R121). -/
def select (s : State) : State := emit (.dly .edge) { emit .sel s with csn := false }

/-- `deselect()` (R122). -/
def deselect (s : State) : State := emit (.dly .edge) { emit .desel s with csn := true }

/-- `emit(TX(b))` (R75): the byte goes out on SDO. -/
def sendByte (b : Byte) (s : State) : State := { emit (.tx b) s with sdo := b }

/-- `b <- oracle(); emit(RX(b))` (R124): SDO carries RD_FILL meanwhile (R125). -/
def recvByte (s : State) : Byte × State :=
  let r := oracle s
  (r.1, { emit (.rx r.1) r.2 with sdo := s.cfg.rdFill })

/-- n bytes clocked in, in arrival order (R124). -/
def recvBytes : Nat → State → List Byte × State
  | 0, s => ([], s)
  | n + 1, s =>
    let r := recvByte s
    let rs := recvBytes n r.2
    (r.1 :: rs.1, rs.2)

/-- RXBUF[0 ..] overwritten by the bytes of a burst, the rest unchanged (R26). -/
def storeRx (bs : List Byte) (s : State) : State :=
  { s with rxbuf := bs ++ s.rxbuf.drop bs.length, rxHigh := max s.rxHigh bs.length }

/-- The write frame whose address byte is `w` (R91, R123). -/
def sendFrame (w d : Byte) (s : State) : State :=
  emit (.dly .post) (deselect (sendByte d (sendByte w (select s))))

/-- The read frame whose address byte is `w`, with n data bytes (R92, R124). -/
def readFrame (w : Byte) (n : Nat) (s : State) : List Byte × State :=
  let r := recvBytes n (sendByte w (select s))
  (r.1, deselect (storeRx r.1 r.2))

/-- `MemWrite(a, 1, d)` (R14, R123). -/
def busWrite (a d : Byte) (s : State) : State := sendFrame (writeByte a) d s

/-- `MemRead(a, n)` (R14, R124). -/
def busRead (a : Byte) (n : Nat) (s : State) : List Byte × State := readFrame (readByte a) n s

/-! ## Abort, completion, reset -/

/-- `raise E` (R256): the error bit is set, the running command ends, UPC <- 0 if a micro-program was running, BUSY <- 0.
Nothing is saved and there is no handler, so there is no return either (R262). -/
def raiseErr (e : ErrCause) (s : State) : State :=
  { s with err := errSet s.err e, upc := if upcProg s.upc = 0#2 then s.upc else 0, busy := false, polling := false }

/-- A host-issued command completes: BUSY <- 0 (R41, R128). -/
def finish (s : State) : State := { s with busy := false }

/-- The end of a host-issued micro-operation: completed, still polling (BUSY stays 1), or aborted. -/
def endCommand : MicroOut → Host.Outcome State Fault Refusal
  | .done s => .next (finish s)
  | .again s => .next { s with busy := true }
  | .raised e s => .next (raiseErr e s)

/-- RST (R280, R281): every register to its reset value; the parameters, the device, the host and the count of free values
stay. -/
def applyRst (host : List HostInput) (s : State) : State :=
  { State.reset with
    cfg := s.cfg
    rxbuf := rxbufNoValue (rxbufLen s.cfg)
    mode := s.cfg.modeSleep
    sck := s.cfg.spiMode.idleHigh
    sdo := s.cfg.rdFill
    dev := s.dev
    host := host
    draws := s.draws }

end Sys2Proof.Machine
end

