-- ==== Sys2Proof/Machine/BusTransport.lean ====
section
/-! DEFINITION. The Bus Transport: WIRE_W, WIRE_R, BWR, BRD (spec 40_bus_transport.md, 30_encoding.md R91, R92). -/

namespace Sys2Proof.Machine

/-- WIRE_W: the frame goes out as it stands, framed and settled like BWR's (R91, R123). -/
def execWireW (a : BitVec 7) (d : Byte) (s : State) : Host.Outcome State Fault Refusal :=
  endCommand (.done (sendFrame (0#1 ++ a) d s))

/-- WIRE_R: the header goes out as it stands and n bytes are clocked in, framed like BRD's (R92, R124, R129). -/
def execWireR (a : BitVec 7) (n : Byte) (s : State) : Host.Outcome State Fault Refusal :=
  if burstFits (rxbufLen s.cfg) n then endCommand (.done (readFrame (1#1 ++ a) n.toNat s).2) else endCommand (.raised .badCmd s)

/-- BWR (R123). -/
def execBwr (a d : Byte) (s : State) : Host.Outcome State Fault Refusal :=
  endCommand (.done (busWrite a d s))

/-- BRD (R124); a burst the buffer does not hold is refused (R105, R129). -/
def execBrd (a n : Byte) (s : State) : Host.Outcome State Fault Refusal :=
  if burstFits (rxbufLen s.cfg) n then endCommand (.done (busRead a n.toNat s).2) else endCommand (.raised .badCmd s)

end Sys2Proof.Machine
end

