-- ==== Sys2Proof/Machine/Arith.lean ====
section
/-! DEFINITION. The arithmetic primitives of spec 00_scope.md R12, R13 and 43_compensation.md R191: each signed operation is
computed on unbounded integers, narrowed to 32 bits, and remembers whether the exact result left the s32 range. -/

namespace Sys2Proof.Machine

/-- `s32(x)`: the s32 value congruent to x modulo 2^32 (R12). -/
def s32 (x : Int) : S32 := BitVec.ofInt 32 x

/-- x lies in the s32 range (R12). -/
def inS32 (x : Int) : Bool := decide (-2147483648 ≤ x) && decide (x ≤ 2147483647)

/-- A value on the way to which nothing overflowed. -/
def exact {w : Nat} (v : BitVec w) : Checked (BitVec w) := { val := v, ovf := false }

/-- An integer result kept to 32 bits; `o` says that an operand had overflowed already (R13). -/
def narrow (x : Int) (o : Bool) : Checked S32 := { val := s32 x, ovf := o || !inS32 x }

/-- `a +s b` (R13). -/
def addS (a b : Checked S32) : Checked S32 := narrow (a.val.toInt + b.val.toInt) (a.ovf || b.ovf)

/-- `a -s b` (R13). -/
def subS (a b : Checked S32) : Checked S32 := narrow (a.val.toInt - b.val.toInt) (a.ovf || b.ovf)

/-- `a *s b` (R13). -/
def mulS (a b : Checked S32) : Checked S32 := narrow (a.val.toInt * b.val.toInt) (a.ovf || b.ovf)

/-- `shl(a, n)` (R13). -/
def shlS (a : Checked S32) (n : Nat) : Checked S32 := narrow (a.val.toInt * 2 ^ n) a.ovf

/-- `asr(a, n)`: the floor of a / 2^n (R13). -/
def asrS (a : Checked S32) (n : Nat) : Checked S32 := { val := s32 (a.val.toInt / 2 ^ n), ovf := a.ovf }

/-- `a +u b` (R13): unsigned operations always wrap (R191). -/
def addU (a b : Checked U32) : Checked U32 := { val := a.val + b.val, ovf := a.ovf || b.ovf }

/-- `a -u b` (R13). -/
def subU (a b : Checked U32) : Checked U32 := { val := a.val - b.val, ovf := a.ovf || b.ovf }

/-- `a *u b` (R13). -/
def mulU (a b : Checked U32) : Checked U32 := { val := a.val * b.val, ovf := a.ovf || b.ovf }

/-- `shlu(a, n)` (R13). -/
def shlU (a : Checked U32) (n : Nat) : Checked U32 := { val := a.val <<< n, ovf := a.ovf }

/-- `lsr(a, n)` (R13). -/
def lsrU (a : Checked U32) (n : Nat) : Checked U32 := { val := a.val >>> n, ovf := a.ovf }

/-- `a /u b`, never evaluated with b = 0 (R13, R206). -/
def divU (a b : Checked U32) : Checked U32 := { val := a.val / b.val, ovf := a.ovf || b.ovf }

/-- A signed register widened to s32 by value (R12, R191). -/
def sext {w : Nat} (v : BitVec w) : Checked S32 := exact (v.signExtend 32)

/-- An unsigned register widened to s32 by value (R12, R191). -/
def zext {w : Nat} (v : BitVec w) : Checked S32 := exact (v.setWidth 32)

/-- An s32 constant. -/
def const (x : Int) : Checked S32 := exact (s32 x)

end Sys2Proof.Machine
end

