-- ==== Sys2Proof/Machine/Compensation.lean ====
section
/-! DEFINITION. The compensation pipeline: the bodies of COMP_BODY, CMPT, CMPP, CMPH (spec 43_compensation.md). -/

namespace Sys2Proof.Machine

/-! ## Temperature -/

/-- FineTemperature and the temperature from the two terms (R196, R197; T-FINAL of R220). -/
def tempOfTerms (var1 var2 : Checked S32) : TempResult :=
  let tfine := addS var1 var2
  { tfine := tfine, t := asrS (addS (mulS tfine (const 5)) (const 128)) 8 }

/-- The first term of the reference body (R196). -/
def tempVar1 (adcT : BitVec 20) (c : TempCoeffs) : Checked S32 :=
  let a := subS (asrS (zext adcT) 3) (shlS (zext c.t1) 1)
  asrS (mulS a (sext c.t2)) 11

/-- The second term of the reference body (R196). -/
def tempVar2 (adcT : BitVec 20) (c : TempCoeffs) : Checked S32 :=
  let b := subS (asrS (zext adcT) 4) (zext c.t1)
  asrS (mulS (asrS (mulS b b) 12) (sext c.t3)) 14

/-! ## Pressure -/

/-- var1 after S1 (R203). -/
def pressVar1 (tfine : S32) : Checked S32 := subS (asrS (exact tfine) 1) (const 64000)

/-- var2 after S4 (R203 S2 to S4). -/
def pressVar2 (tfine : S32) (c : PressCoeffs) : Checked S32 :=
  let var1 := pressVar1 tfine
  let q := asrS var1 2
  let s2 := mulS (asrS (mulS q q) 11) (sext c.p6)
  let s3 := addS s2 (shlS (mulS var1 (sext c.p5)) 1)
  addS (asrS s3 2) (shlS (sext c.p4) 16)

/-- The denominator term: var1 after S6 (R203 S5, S6). -/
def pressDenominator (tfine : S32) (c : PressCoeffs) : Checked S32 :=
  let var1 := pressVar1 tfine
  let q := asrS var1 2
  let s5 := asrS (addS (asrS (mulS (sext c.p3) (asrS (mulS q q) 13)) 3) (asrS (mulS (sext c.p2) var1) 1)) 18
  asrS (mulS (addS (const 32768) s5) (zext c.p1)) 15

/-- p after S7 (R203). -/
def pressDividend (adcP : BitVec 20) (var2 : Checked S32) : Checked U32 :=
  mulU (subU (subS (const 1048576) (zext adcP)) (asrS var2 12)) (exact 3125#32)

/-- S8: shift-then-divide below 0x80000000, divide-then-multiply at or above it (R205; P-BRANCH of R220). -/
def pressDivide (p d : Checked U32) : Checked U32 :=
  if p.val < 0x80000000#32 then divU (shlU p 1) d else mulU (divU p d) (exact 2#32)

/-- S9 to S11 (R203). -/
def pressAfterDivision (c : PressCoeffs) (p : Checked U32) : Checked U32 :=
  let e := lsrU p 3
  let var1 := asrS (mulS (sext c.p9) (lsrU (mulU e e) 13)) 12
  let var2 := asrS (mulS (lsrU p 2) (sext c.p8)) 13
  addS p (asrS (addS (addS var1 var2) (sext c.p7)) 4)

/-- The guard G around the division: a zero denominator gives 0 and no division (R206; P-GUARD of R220). `before` says
that a signed operation before the guard overflowed. -/
def guardedDivision (before : Bool) (p d : Checked U32) (after : Checked U32 → Checked U32) : Checked U32 :=
  if d.val = 0 then { val := 0, ovf := before || d.ovf } else after (pressDivide p d)

/-! ## Humidity -/

/-- The clamp into [0, 419430400], signed, and the final shift by 12 (R217, R218; H-CLAMP of R220). -/
def clampShift (w2 : Checked S32) : Checked U32 :=
  let low : Int := if w2.val.toInt < 0 then 0 else w2.val.toInt
  let c : Int := if low > hClampMax then hClampMax else low
  lsrU { val := s32 c, ovf := w2.ovf } 12

/-- y4 of the reference body (R213). -/
def humScaleTerm (v : Checked S32) (c : HumCoeffs) : Checked S32 :=
  let y1 := asrS (mulS v (sext c.h6)) 10
  let y2 := addS (asrS (mulS v (zext c.h3)) 11) (const 32768)
  let y3 := addS (asrS (mulS y1 y2) 10) (const 2097152)
  asrS (addS (mulS y3 (sext c.h2)) (const 8192)) 14

/-- The accumulator w2 of the reference body (R213). -/
def humAccumulator (adcH : BitVec 16) (tfine : S32) (c : HumCoeffs) : Checked S32 :=
  let v := subS (exact tfine) (const 76800)
  let x1 := subS (subS (shlS (zext adcH) 14) (shlS (sext c.h4) 20)) (mulS (sext c.h5) v)
  let x2 := asrS (addS x1 (const 16384)) 15
  let w := mulS x2 (humScaleTerm v c)
  let z := asrS w 15
  subS w (asrS (mulS (asrS (mulS z z) 7) (zext c.h1)) 4)

/-! ## COMP_BODY (R220) -/

/-- The default bodies (R196, R203, R213). -/
def referenceBody : CompBody where
  compT adcT c := tempOfTerms (tempVar1 adcT c) (tempVar2 adcT c)
  compP adcP tfine c :=
    guardedDivision (pressVar2 tfine c).ovf (pressDividend adcP (pressVar2 tfine c)) (pressDenominator tfine c)
      (pressAfterDivision c)
  compH adcH tfine c := clampShift (humAccumulator adcH tfine c)

/-- Bodies of which only T-FINAL, P-GUARD, P-BRANCH and H-CLAMP are known (R220). -/
def otherBody : CompBody where
  compT adcT c := tempOfTerms (Config.otherVar1 adcT c) (Config.otherVar2 adcT c)
  compP adcP tfine c :=
    guardedDivision false (Config.otherDividend adcP tfine c) (Config.otherDenominator adcP tfine c) fun p =>
      let r := Config.otherAfterDivision p.val adcP tfine c
      { r with ovf := r.ovf || p.ovf }
  compH adcH tfine c := clampShift (Config.otherAccumulator adcH tfine c)

/-- The bodies COMP_BODY names. -/
def bodyOf : BodyChoice → CompBody
  | .reference => referenceBody
  | .other => otherBody

/-! ## The commands -/

/-- CMPT as a micro-operation (R192, R196, R257). -/
def microCmpt (s : State) : MicroOut :=
  if readyT s then
    let r := (bodyOf s.cfg.compBody).compT s.adcT s.cal.t
    if arithFault s.cfg (r.tfine.ovf || r.t.ovf) then .raised .arith s
    else .done { s with tfine := r.tfine.val, tX100 := r.t.val, cyc := 2#3 }
  else .raised .badSeq s

/-- CMPP as a micro-operation (R192, R203, R257). -/
def microCmpp (s : State) : MicroOut :=
  if readyP s then
    let r := (bodyOf s.cfg.compBody).compP s.adcP s.tfine s.cal.p
    if arithFault s.cfg r.ovf then .raised .arith s
    else .done { s with pX100 := r.val, cyc := 3#3 }
  else .raised .badSeq s

/-- CMPH as a micro-operation (R192, R213, R257). -/
def microCmph (s : State) : MicroOut :=
  if readyH s then
    let r := (bodyOf s.cfg.compBody).compH s.adcH s.tfine s.cal.h
    if arithFault s.cfg r.ovf then .raised .arith s
    else .done { s with hX1024 := r.val, cyc := 4#3 }
  else .raised .badSeq s

/-- CMPT (R196). -/
def execCmpt (s : State) : Host.Outcome State Fault Refusal := endCommand (microCmpt s)

/-- CMPP (R203). -/
def execCmpp (s : State) : Host.Outcome State Fault Refusal := endCommand (microCmpp s)

/-- CMPH (R213). -/
def execCmph (s : State) : Host.Outcome State Fault Refusal := endCommand (microCmph s)

end Sys2Proof.Machine
end

