-- ==== Sys2Proof/Machine/Initialization.lean ====
section
/-! DEFINITION. Initialization: RDID, LDCALA, LDCALB, WROS, WRHUM, WRCTL, INIT (spec 41_init_calibration.md). -/

namespace Sys2Proof.Machine

/-- RDID as a micro-operation: the byte is stored before a mismatch is raised (R141, R252, R261). -/
def microRdid (s : State) : MicroOut :=
  let r := busRead s.cfg.addrId lenId s
  let s1 := { r.2 with chipId := byteAt r.1 0, idSeen := true }
  if s.cfg.idStrict && byteAt r.1 0 != idExpected then .raised .idMismatch s1 else .done s1

/-- LDCALA as a micro-operation: once per session (R143, R152). -/
def microLdcala (s : State) : MicroOut :=
  if s.calaValid then .raised .badSeq s
  else
    let r := busRead s.cfg.addrCalA lenCalA s
    .done { r.2 with cal := calAfterA s.cfg.h1Src r.1 s.cal, calaValid := true }

/-- LDCALB as a micro-operation: once per session (R146, R152). -/
def microLdcalb (s : State) : MicroOut :=
  if s.calbValid then .raised .badSeq s
  else
    let r := busRead s.cfg.addrCalB lenCalB s
    .done { r.2 with cal := calAfterB s.cfg.h1Src r.1 s.cal, calbValid := true }

/-- WROS as a micro-operation: the oversampling codes with the Sleep code, whatever MODE is (R155). -/
def microWros (s : State) : MicroOut :=
  .done (busWrite s.cfg.addrCtrlMeas (packCtrl s.cfg.osrsT s.cfg.osrsP s.cfg.modeSleep) s)

/-- WRHUM as a micro-operation (R156). -/
def microWrhum (s : State) : MicroOut := .done (busWrite s.cfg.addrCtrlHum (packHum s.cfg.osrsH) s)

/-- WRCTL as a micro-operation: the full combined control value (R157). -/
def microWrctl (s : State) : MicroOut :=
  .done (busWrite s.cfg.addrCtrlMeas (packCtrl s.cfg.osrsT s.cfg.osrsP s.mode) s)

/-- RDID (R141). -/
def execRdid (s : State) : Host.Outcome State Fault Refusal := endCommand (microRdid s)

/-- LDCALA (R143). -/
def execLdcala (s : State) : Host.Outcome State Fault Refusal := endCommand (microLdcala s)

/-- LDCALB (R146). -/
def execLdcalb (s : State) : Host.Outcome State Fault Refusal := endCommand (microLdcalb s)

/-- WROS (R155). -/
def execWros (s : State) : Host.Outcome State Fault Refusal := endCommand (microWros s)

/-- WRHUM (R156). -/
def execWrhum (s : State) : Host.Outcome State Fault Refusal := endCommand (microWrhum s)

/-- WRCTL (R157). -/
def execWrctl (s : State) : Host.Outcome State Fault Refusal := endCommand (microWrctl s)

/-- INIT m: checked in R261's order, then MODE <- m and the micro-program is entered at I0; `runInit` runs its steps
(R160, R161). -/
def execInit (m : BitVec 2) (s : State) : Host.Outcome State Fault Refusal :=
  if modeLegal m = false then .next (raiseErr .badCmd s)
  else if s.initDone then .next (raiseErr .badSeq s)
  else .next { s with mode := m, upc := upcOf progInit 0#3, busy := true }

end Sys2Proof.Machine
end

