-- ==== Sys2Proof/Machine/Measurement.lean ====
section
/-! DEFINITION. Measurement: POLL, RDRAW, MEAS (spec 42_measure.md). -/

namespace Sys2Proof.Machine

/-- POLL_CNT + 1, only when POLL_LIMIT is set (R42, R174). -/
def countPoll (s : State) : State :=
  { s with pollCnt := if s.cfg.pollLimit.isSome then s.pollCnt + 1 else s.pollCnt }

/-- POLL_LIMIT is set and reached (R174, R253). -/
def pollExhausted (s : State) : Bool :=
  match s.cfg.pollLimit with
  | none => false
  | some l => decide (l ≤ s.pollCnt)

/-- One iteration of the poll loop: bit 3 is tested first, then the limit, and the delay lies between two polls (R174,
R253, R261). -/
def microPollOnce (s : State) : MicroOut :=
  let r := busRead s.cfg.addrStatus lenStatus s
  let s1 := countPoll r.2
  if statusBusy (byteAt r.1 0) then
    if pollExhausted s1 then .raised .pollTimeout s1
    else .again { emit (.dly .poll) s1 with polling := true }
  else .done { s1 with polling := false }

/-- POLL from its start (R171, R174). -/
def microPoll (s : State) : MicroOut :=
  if s.initDone then microPollOnce { s with pollCnt := 0 } else .raised .badSeq s

/-- RDRAW as a micro-operation: one burst, the three raw registers together, CYC <- 1 (R171, R176, R177, R178). -/
def microRdraw (s : State) : MicroOut :=
  if s.initDone then
    let r := busRead s.cfg.addrData lenData s
    .done { r.2 with
      adcP := unpackRaw20 (byteAt r.1 0) (byteAt r.1 1) (byteAt r.1 2)
      adcT := unpackRaw20 (byteAt r.1 3) (byteAt r.1 4) (byteAt r.1 5)
      adcH := unpackRaw16 (byteAt r.1 6) (byteAt r.1 7)
      cyc := 1#3 }
  else .raised .badSeq s

/-- POLL, host-issued: its first iteration; while it polls again, `step` runs the further ones (R174). -/
def execPoll (s : State) : Host.Outcome State Fault Refusal := endCommand (microPoll s)

/-- RDRAW (R176). -/
def execRdraw (s : State) : Host.Outcome State Fault Refusal := endCommand (microRdraw s)

/-- MEAS: accepted, the micro-program is entered at M0; `runMeas` runs its steps (R171, R172). -/
def execMeas (s : State) : Host.Outcome State Fault Refusal :=
  if s.initDone then .next { s with upc := upcOf progMeas 0#3, busy := true } else .next (raiseErr .badSeq s)

end Sys2Proof.Machine
end

