-- ==== Sys2Proof/Machine/Output.lean ====
section
/-! DEFINITION. The output stage: SCALE and ALT (spec 44_output.md). -/

namespace Sys2Proof.Machine

/-- `rnd`, with rnd(0) = 0 (R15, R239). -/
def rnd (q : Rat) : Rat := if q = 0 then 0 else Config.rndNonzero q

/-- `POW` on a positive base: positive, and 1 at base 1 (R236, R239). -/
def pow (b e : Rat) : Rat := if b = 1 then 1 else ((Config.powNum b e : Rat) + 1) / ((Config.powDen b e : Rat) + 1)

/-- The barometric formula (R236). -/
def altitude (t p : Rat) : Rat :=
  let x := pow (p / pSea) altExp
  (t + altK0) * (1 - x) / (x * altLapse)

/-- What ALT stores: the rounded formula, or any FLT value where it has none (R236, R237). -/
def altResult (mT mP free : Flt) : Flt :=
  match mT, mP with
  | .real t, .real p => if p = 0 then free else .real (rnd (altitude t p))
  | _, _ => free

/-- SCALE as a micro-operation: T_X100 signed, P_X100 and H_X1024 unsigned (R231, R232, D31). -/
def microScale (s : State) : MicroOut :=
  if readyScale s then
    .done { s with
      measValid := false
      mT := .real (rnd ((s.tX100.toInt : Rat) / centiScale))
      mP := .real (rnd ((s.pX100.toNat : Rat) / centiScale))
      mH := .real (rnd ((s.hX1024.toNat : Rat) / humScale))
      cyc := 5#3 }
  else .raised .badSeq s

/-- ALT as a micro-operation; the free value is drawn whether or not it is stored (R231, R236, R237). -/
def microAlt (s : State) : MicroOut :=
  if readyAlt s then
    .done { s with
      mAlt := altResult s.mT s.mP (Config.freeAlt s.draws)
      draws := s.draws + 1
      measValid := true
      cyc := 6#3 }
  else .raised .badSeq s

/-- SCALE (R232). -/
def execScale (s : State) : Host.Outcome State Fault Refusal := endCommand (microScale s)

/-- ALT (R236). -/
def execAlt (s : State) : Host.Outcome State Fault Refusal := endCommand (microAlt s)

end Sys2Proof.Machine
end

