-- ==== Sys2Proof/Machine/Dispatch.lean ====
section
/-! DEFINITION. The meaning of each instruction: one arm per constructor of Instr. -/

namespace Sys2Proof.Machine

def exec (i : Instr) (s : State) : Host.Outcome State Fault Refusal :=
  match i with
  | .wireW a d => Sys2Proof.Machine.execWireW a d s
  | .wireR a n => Sys2Proof.Machine.execWireR a n s
  | .bwr a d => Sys2Proof.Machine.execBwr a d s
  | .brd a n => Sys2Proof.Machine.execBrd a n s
  | .init m => Sys2Proof.Machine.execInit m s
  | .meas => Sys2Proof.Machine.execMeas s
  | .rdid => Sys2Proof.Machine.execRdid s
  | .ldcala => Sys2Proof.Machine.execLdcala s
  | .ldcalb => Sys2Proof.Machine.execLdcalb s
  | .wros => Sys2Proof.Machine.execWros s
  | .wrhum => Sys2Proof.Machine.execWrhum s
  | .wrctl => Sys2Proof.Machine.execWrctl s
  | .poll => Sys2Proof.Machine.execPoll s
  | .rdraw => Sys2Proof.Machine.execRdraw s
  | .cmpt => Sys2Proof.Machine.execCmpt s
  | .cmpp => Sys2Proof.Machine.execCmpp s
  | .cmph => Sys2Proof.Machine.execCmph s
  | .scale => Sys2Proof.Machine.execScale s
  | .alt => Sys2Proof.Machine.execAlt s

end Sys2Proof.Machine
end

