-- ==== Sys2Proof/Machine/Sequencer.lean ====
section
/-! DEFINITION. The two hardwired micro-programs and the continuation of a running command, one micro-operation a time
(spec 41_init_calibration.md R160, 42_measure.md R172 to R174, 10_state.md R40, R41). -/

namespace Sys2Proof.Machine

/-- The step is over: the successor's index goes to UPC; an abort leaves the micro-program (R40, R256). -/
def toStep (prog : BitVec 2) (idx : BitVec 3) : MicroOut → Host.Outcome State Fault Refusal
  | .done s => .next { s with upc := upcOf prog idx }
  | .again s => .next s
  | .raised e s => .next (raiseErr e s)

/-- The last step of INIT: INIT_DONE <- 1, UPC <- 0 (R160). -/
def endInit : MicroOut → Host.Outcome State Fault Refusal
  | .done s => .next { s with initDone := true, upc := 0, busy := false }
  | .again s => .next s
  | .raised e s => .next (raiseErr e s)

/-- The last step of MEAS: UPC <- 0 (R172). -/
def endMeas : MicroOut → Host.Outcome State Fault Refusal
  | .done s => .next { s with upc := 0, busy := false }
  | .again s => .next s
  | .raised e s => .next (raiseErr e s)

/-- The step of INIT that UPC names (R160). -/
def runInit (s : State) : Host.Outcome State Fault Refusal :=
  match (upcIdx s.upc).toNat with
  | 0 => toStep progInit 1#3 (microRdid s)
  | 1 => toStep progInit 2#3 (microLdcala s)
  | 2 => toStep progInit 3#3 (microLdcalb s)
  | 3 => toStep progInit 4#3 (microWros s)
  | 4 => toStep progInit 5#3 (microWrhum s)
  | 5 => endInit (microWrctl s)
  | _ => .fault .reservedUpc

/-- M0: re-arm and go on to the poll in Forced mode, else skip both (R173). -/
def measRearm (s : State) : Host.Outcome State Fault Refusal :=
  if s.mode = s.cfg.modeForced then toStep progMeas 1#3 (microWrctl s)
  else .next { s with upc := upcOf progMeas 2#3 }

/-- M1: one iteration of the poll loop; UPC stays while the device is busy (R174). -/
def measPoll (s : State) : Host.Outcome State Fault Refusal :=
  toStep progMeas 2#3 (if s.polling then microPollOnce s else microPoll s)

/-- The step of MEAS that UPC names (R172). -/
def runMeas (s : State) : Host.Outcome State Fault Refusal :=
  match (upcIdx s.upc).toNat with
  | 0 => measRearm s
  | 1 => measPoll s
  | 2 => toStep progMeas 3#3 (microRdraw s)
  | 3 => toStep progMeas 4#3 (microCmpt s)
  | 4 => toStep progMeas 5#3 (microCmpp s)
  | 5 => toStep progMeas 6#3 (microCmph s)
  | 6 => toStep progMeas 7#3 (microScale s)
  | _ => endMeas (microAlt s)

/-- The running command goes on: a step of a micro-program, or another iteration of a host-issued POLL. -/
def runBusy (s : State) : Host.Outcome State Fault Refusal :=
  if upcProg s.upc = progInit then runInit s
  else if upcProg s.upc = progMeas then runMeas s
  else if upcProg s.upc = 0#2 ∧ s.polling = true then endCommand (microPollOnce s)
  else .fault .reservedUpc

end Sys2Proof.Machine
end

