-- ==== Sys2Proof/Machine/Step.lean ====
section
/-! DEFINITION. One step of the system: RST, the running command, or the acceptance of the presented request (spec
10_state.md R41, 60_exceptions.md R254, R261, 70_reset_and_hazards.md R280). -/

namespace Sys2Proof.Machine

/-- A request is accepted: BUSY <- 1, decoded, executed; an illegal word raises BAD_CMD (R41, R105, R254). -/
def accept (r : Request) (s : State) : Host.Outcome State Fault Refusal :=
  match decode (rxbufLen s.cfg) r with
  | .ok i => exec i { s with busy := true }
  | .error _ => .next (raiseErr .badCmd { s with busy := true })

/-- One step. RST at the head of the host's list takes effect whatever the block does; otherwise a running command goes
on, and a presented request is held until none runs. DESIGN CHOICE (log 2): the list is in the order in which the block
takes things in, so a RST listed behind a held request waits for that request, and one that overtakes it is listed before
it. -/
def step (s : State) : Host.Outcome State Fault Refusal :=
  match s.host with
  | .rst 0 :: h => .next (applyRst h s)
  | .rst (n + 1) :: h =>
    if s.busy then runBusy { s with host := .rst n :: h } else .next { s with host := .rst n :: h }
  | .present r :: h => if s.busy then runBusy s else accept r { s with host := h }
  | [] => if s.busy then runBusy s else .next s

/-- The request of a table word, presented; a width no row has presents nothing. -/
def tableInput (nbits w : Nat) : List HostInput :=
  match requestOfTable nbits w with
  | some r => [.present r]
  | none => []

/-- The word presented to an idle block, before all else the host does, so that the next step accepts it. -/
def State.withFetchWord (s : State) (nbits w : Nat) : State :=
  { s with host := tableInput nbits w ++ s.host, busy := false }

end Sys2Proof.Machine
end

