-- ==== Sys2Proof/Machine/HostPort.lean ====
section
/-! DEFINITION. The host's read port: a register is readable while BUSY = 0 and, where the spec names a guard, while the
guard says it holds a value (spec 10_state.md R22 to R29, R33, R41, R50; 92_eei_decisions.md D16; 93 U9). -/

namespace Sys2Proof.Machine

/-- The flag that guards H1: that of the block H1_SRC lies in (R50). -/
def h1Valid (s : State) : Bool :=
  match s.cfg.h1Src with
  | .blockA _ => s.calaValid
  | .blockB _ => s.calbValid

/-- CYC has reached a stage (R37). -/
def cycAtLeast (k : Nat) (s : State) : Bool := decide (k ≤ s.cyc.toNat)

/-- The register holds a value (R50, "guarded by"). -/
def hostGuard (r : HostReg) (s : State) : Bool :=
  match r with
  | .calT1 | .calT2 | .calT3 => s.calaValid
  | .calP1 | .calP2 | .calP3 | .calP4 | .calP5 | .calP6 | .calP7 | .calP8 | .calP9 => s.calaValid
  | .calH1 => h1Valid s
  | .calH2 | .calH3 | .calH4 | .calH5 | .calH6 => s.calbValid
  | .adcP | .adcT | .adcH => cycAtLeast 1 s
  | .tfine | .tX100 => cycAtLeast 2 s
  | .pX100 => cycAtLeast 3 s
  | .hX1024 => cycAtLeast 4 s
  | .rxbuf k => decide (k < rxbufLen s.cfg ∧ k < s.rxHigh)
  | .mT | .mP | .mH => cycAtLeast 5 s || s.measValid
  | .mAlt => s.measValid
  | .chipId => s.idSeen
  | .pollCnt => s.cfg.pollLimit.isSome
  | .calaValid | .calbValid | .measValid | .idSeen | .mode | .osrsT | .osrsP | .osrsH => true
  | .initDone | .cyc | .err | .upc | .busy => true

/-- An unsigned register as a number. -/
def unum {w : Nat} (v : BitVec w) : HostVal := .num v.toNat

/-- A signed register as a number. -/
def snum {w : Nat} (v : BitVec w) : HostVal := .num v.toInt

/-- A flag as a number. -/
def fnum (b : Bool) : HostVal := .num (if b then 1 else 0)

/-- What the register holds, by its type (R20 to R42). -/
def hostContent (r : HostReg) (s : State) : HostVal :=
  match r with
  | .calT1 => unum s.cal.t.t1
  | .calT2 => snum s.cal.t.t2
  | .calT3 => snum s.cal.t.t3
  | .calP1 => unum s.cal.p.p1
  | .calP2 => snum s.cal.p.p2
  | .calP3 => snum s.cal.p.p3
  | .calP4 => snum s.cal.p.p4
  | .calP5 => snum s.cal.p.p5
  | .calP6 => snum s.cal.p.p6
  | .calP7 => snum s.cal.p.p7
  | .calP8 => snum s.cal.p.p8
  | .calP9 => snum s.cal.p.p9
  | .calH1 => unum s.cal.h.h1
  | .calH2 => snum s.cal.h.h2
  | .calH3 => unum s.cal.h.h3
  | .calH4 => snum s.cal.h.h4
  | .calH5 => snum s.cal.h.h5
  | .calH6 => snum s.cal.h.h6
  | .calaValid => fnum s.calaValid
  | .calbValid => fnum s.calbValid
  | .adcP => unum s.adcP
  | .adcT => unum s.adcT
  | .adcH => unum s.adcH
  | .tfine => snum s.tfine
  | .tX100 => snum s.tX100
  | .pX100 => unum s.pX100
  | .hX1024 => unum s.hX1024
  | .rxbuf k => unum (byteAt s.rxbuf k)
  | .mT => .flt s.mT
  | .mP => .flt s.mP
  | .mH => .flt s.mH
  | .mAlt => .flt s.mAlt
  | .measValid => fnum s.measValid
  | .chipId => unum s.chipId
  | .idSeen => fnum s.idSeen
  | .mode => unum s.mode
  | .osrsT => unum s.cfg.osrsT
  | .osrsP => unum s.cfg.osrsP
  | .osrsH => unum s.cfg.osrsH
  | .initDone => fnum s.initDone
  | .cyc => unum s.cyc
  | .err => unum s.err
  | .upc => unum s.upc
  | .busy => fnum s.busy
  | .pollCnt => .num s.pollCnt

/-- A host read (R41): nothing while the block is busy or the register holds no value. -/
def hostRead (r : HostReg) (s : State) : Option HostVal :=
  if s.busy = false ∧ hostGuard r s = true then some (hostContent r s) else none

end Sys2Proof.Machine
end

