-- ==== Sys2Proof/Safety.lean ====
section
/-! DEFINITION. What holds of the block between steps, in the terms the claims use: complete wire frames, a legal control
state, and well-formed data (spec 40_bus_transport.md R130, 10_state.md R37, R40, R41, 70_reset_and_hazards.md R286). -/

namespace Sys2Proof.Machine

/-! ## The grammar of HIST (R90 to R92, R121 to R124, R286 d, e) -/

/-- Where in a wire frame the bus is. -/
inductive BusPhase where
  /-- No frame is open. -/
  | idle
  /-- Select asserted, its settle delay to come. -/
  | selEdge
  /-- The address byte comes next. -/
  | address
  /-- A write frame: the data byte comes next. -/
  | writeData
  /-- A write frame: select is deasserted next. -/
  | writeEnd
  /-- A write frame: the settle delay of the deasserted select comes next. -/
  | writeEdge
  /-- A write frame: the settle delay after a write comes next. -/
  | writePost
  /-- A read frame with that many data bytes in. -/
  | readData (n : Nat)
  /-- A read frame: the settle delay of the deasserted select comes next. -/
  | readEdge
  deriving DecidableEq, Repr

/-- The phase after an event, or none where the frame formats and a receive buffer of `len` bytes allow no such event. -/
def busNext (len : Nat) : BusPhase → BusEvent → Option BusPhase
  | .idle, .sel => some .selEdge
  | .idle, .dly .poll => some .idle
  | .selEdge, .dly .edge => some .address
  | .address, .tx b => some (if b.getLsbD 7 then .readData 0 else .writeData)
  | .writeData, .tx _ => some .writeEnd
  | .writeEnd, .desel => some .writeEdge
  | .writeEdge, .dly .edge => some .writePost
  | .writePost, .dly .post => some .idle
  | .readData n, .rx _ => if n < len then some (.readData (n + 1)) else none
  | .readData _, .desel => some .readEdge
  | .readEdge, .dly .edge => some .idle
  | _, _ => none

/-- The phase after a list of events. -/
def busScan (len : Nat) : BusPhase → List BusEvent → Option BusPhase
  | p, [] => some p
  | p, e :: es =>
    match busNext len p e with
    | some q => busScan len q es
    | none => none

/-- The events form complete wire frames with their delays, and delays between polls, and nothing else. -/
def framesComplete (len : Nat) (es : List BusEvent) : Prop := busScan len .idle es = some .idle

/-- The bus between steps: deselected, the clock idle, every frame of HIST complete (R130). -/
structure BusOk (s : State) : Prop where
  deselected : s.csn = true
  clockIdle : s.sck = s.cfg.spiMode.idleHigh
  frames : framesComplete (rxbufLen s.cfg) s.hist

/-! ## Control state (R36, R37, R40, R41, R172) -/

/-- INIT is at the step UPC names. -/
structure InInit (s : State) : Prop where
  prog : upcProg s.upc = progInit
  idx : (upcIdx s.upc).toNat ≤ 5
  notPolling : s.polling = false
  notDone : s.initDone = false
  idRead : 1 ≤ (upcIdx s.upc).toNat → s.idSeen = true
  calA : 2 ≤ (upcIdx s.upc).toNat → s.calaValid = true
  calB : 3 ≤ (upcIdx s.upc).toNat → s.calbValid = true

/-- MEAS is at the step UPC names: from M3 on CYC has kept pace (R172). -/
structure InMeas (s : State) : Prop where
  prog : upcProg s.upc = progMeas
  done : s.initDone = true
  pollAt : s.polling = true → (upcIdx s.upc).toNat = 1
  pace : 3 ≤ (upcIdx s.upc).toNat → s.cyc.toNat + 2 = (upcIdx s.upc).toNat

/-- A host-issued POLL is in its loop. -/
structure InPoll (s : State) : Prop where
  upc : s.upc = 0#5
  polling : s.polling = true
  done : s.initDone = true

/-- What BUSY, UPC and the validity flags say together. -/
structure ControlOk (s : State) : Prop where
  idle : s.busy = false → s.upc = 0#5 ∧ s.polling = false
  running : s.busy = true → InInit s ∨ InMeas s ∨ InPoll s
  initialized : s.initDone = true → s.calaValid = true ∧ s.calbValid = true ∧ s.idSeen = true
  staged : s.cyc ≠ 0#3 → s.initDone = true
  legalStage : s.cyc ≠ 7#3

/-! ## Data (R20, R25, R26, R219, R220, R233) -/

/-- A value of FLT that is a number (R233 e). -/
def Flt.isReal (f : Flt) : Prop := ∃ q, f = .real q

/-- What the registers hold while their guards are up. -/
structure DataOk (s : State) : Prop where
  buffer : s.rxbuf.length = rxbufLen s.cfg
  written : s.rxHigh ≤ rxbufLen s.cfg
  packed : s.calbValid = true → s.cal.h.h4.toNat < 4096 ∧ s.cal.h.h5.toNat < 4096
  finalStep : 2 ≤ s.cyc.toNat → s.tX100 = (asrS (addS (mulS (exact s.tfine) (const 5)) (const 128)) 8).val
  humidity : 4 ≤ s.cyc.toNat → s.hX1024.toNat ≤ 102400
  record : 5 ≤ s.cyc.toNat ∨ s.measValid = true → Flt.isReal s.mT ∧ Flt.isReal s.mP ∧ Flt.isReal s.mH
  memory : memWf s.dev.reg = true
  settled : s.dev.sampleDue = false

/-! ## Names used by claims -/

/-- The baseline of R250: no hardening parameter is set. -/
def Baseline (cfg : Params) : Prop := cfg.idStrict = false ∧ cfg.pollLimit = none ∧ cfg.overflow = .wrap

/-- No micro-program and no poll loop is under way, as whenever BUSY = 0 (`ControlOk.idle`). -/
def AtRest (s : State) : Prop := s.upc = 0#5 ∧ s.polling = false

/-- The host does not assert RST in this step. -/
def NotRst (s : State) : Prop := ∀ h, s.host ≠ .rst 0 :: h

/-- The host has no RST pending at the head of its list. -/
def NoRstNext (s : State) : Prop := ∀ n h, s.host ≠ .rst n :: h

/-- The device is of the oracle kind and will answer the bytes `bs` and then `rest`. -/
def Answers (s : State) (bs rest : List Byte) : Prop := s.dev.kind = .oracle ∧ s.dev.answers = bs ++ rest

/-- The events of a write frame with address byte `w` (R91, R123). -/
def writeEvents (w d : Byte) : List BusEvent :=
  [.sel, .dly .edge, .tx w, .tx d, .desel, .dly .edge, .dly .post]

/-- The events of a read frame with address byte `w` and the bytes read (R92, R124). -/
def readEvents (w : Byte) (bs : List Byte) : List BusEvent :=
  [.sel, .dly .edge, .tx w] ++ bs.map .rx ++ [.desel, .dly .edge]

/-- The locations the reference device writes itself: the status register and the raw-data region (R68, R74). -/
def devOwn (cfg : Params) : List (BitVec 7) := wireAddr cfg.addrStatus :: devDataRegion cfg

/-- The device neither runs freely nor has a sample to store. -/
def Quiet (v : Device) : Prop := v.opMode ≠ .normal ∧ v.sampleDue = false

/-- A write of `d` to the location `a` takes the device v to v': `a` holds `d`, every other location is as before. The
device's own locations are left out where it may write them itself: at a write of the combined control register, or when
it was not quiet (R67 to R69). -/
def StoresByte (cfg : Params) (a : BitVec 7) (d : Byte) (v v' : Device) : Prop :=
  let own := fun x : BitVec 7 => x ∈ devOwn cfg ∧ ¬(Quiet v ∧ a ≠ wireAddr cfg.addrCtrlMeas)
  (∀ x : BitVec 7, x ≠ a → ¬own x → memRead v'.reg x.toNat = memRead v.reg x.toNat) ∧
  (¬own a → memRead v'.reg a.toNat = d)

/-- R105 (a) to (d) on the numbers of the three bytes of a command word, RXBUF_LEN being `len`. -/
abbrev IllegalBytes (len op a b : Nat) : Prop :=
  op ∉ [0x01, 0x02, 0x10, 0x11, 0x20, 0x21, 0x22, 0x23, 0x24, 0x25, 0x30, 0x31, 0x40, 0x41, 0x42, 0x50, 0x51] ∨
  (op ∉ [0x01, 0x02, 0x10] ∧ (a ≠ 0 ∨ b ≠ 0)) ∨ (op = 0x10 ∧ (a ≠ 0 ∨ b / 4 ≠ 0)) ∨
  (op = 0x02 ∧ len < b) ∨ (op = 0x10 ∧ b % 4 = 2)

/-- A command word is illegal (R105). -/
abbrev IllegalWord (len : Nat) (w : BitVec 24) : Prop :=
  IllegalBytes len (w.toNat / 65536) (w.toNat / 256 % 256) (w.toNat % 256)

/-- The events of a poll loop that reads these status bytes: a delay between two reads (R174). -/
def pollEvents (w : Byte) : List Byte → List BusEvent
  | [] => []
  | [b] => readEvents w [b]
  | b :: bs => readEvents w [b] ++ [.dly .poll] ++ pollEvents w bs

/-- In the state u stands what a MEAS that started in s makes of the raw burst D: the raw registers by R177, the results by
the bodies of COMP_BODY, the record by R232, and its altitude by R236 where the pressure is not 0. -/
def MeasuredFrom (s : State) (D : List Byte) (u : State) : Prop :=
  let t := rnd ((u.tX100.toInt : Rat) / 100)
  let p := rnd ((u.pX100.toNat : Rat) / 100)
  let x := pow (p / (101325 / 100)) (1 / (5255 / 1000))
  (u.adcP.toNat = (byteAt D 0).toNat * 4096 + (byteAt D 1).toNat * 16 + (byteAt D 2).toNat / 16 ∧
    u.adcT.toNat = (byteAt D 3).toNat * 4096 + (byteAt D 4).toNat * 16 + (byteAt D 5).toNat / 16 ∧
    u.adcH.toNat = (byteAt D 6).toNat * 256 + (byteAt D 7).toNat) ∧
  (u.tfine = ((bodyOf s.cfg.compBody).compT u.adcT s.cal.t).tfine.val ∧
    u.tX100 = ((bodyOf s.cfg.compBody).compT u.adcT s.cal.t).t.val ∧
    u.pX100 = ((bodyOf s.cfg.compBody).compP u.adcP u.tfine s.cal.p).val ∧
    u.hX1024 = ((bodyOf s.cfg.compBody).compH u.adcH u.tfine s.cal.h).val) ∧
  u.mT = .real t ∧ u.mP = .real p ∧ u.mH = .real (rnd ((u.hX1024.toNat : Rat) / 1024)) ∧
  (p ≠ 0 → u.mAlt = .real (rnd ((t + 27315 / 100) * (1 - x) / (x * (65 / 10000)))))

/-! ## Where the reference bodies overflow (R13, R196, R203, R213, R257) -/

open BitVec in
/-- Some `+s`, `-s`, `*s` or `shl` of R196 leaves the s32 range. -/
def cmptOverflows (adcT : BitVec 20) (c : TempCoeffs) : Bool :=
  let adc : BitVec 32 := adcT.setWidth 32
  let t1 : BitVec 32 := c.t1.setWidth 32
  let t2 : BitVec 32 := c.t2.signExtend 32
  let t3 : BitVec 32 := c.t3.signExtend 32
  let a := adc.sshiftRight 3 - t1 <<< 1
  let b := adc.sshiftRight 4 - t1
  let bb := (b * b).sshiftRight 12
  let var1 := (a * t2).sshiftRight 11
  let var2 := (bb * t3).sshiftRight 14
  let tfine := var1 + var2
  smulOverflow t1 2#32 || ssubOverflow (adc.sshiftRight 3) (t1 <<< 1) || smulOverflow a t2 ||
    ssubOverflow (adc.sshiftRight 4) t1 || smulOverflow b b || smulOverflow bb t3 || saddOverflow var1 var2 ||
    smulOverflow tfine 5#32 || saddOverflow (tfine * 5#32) 128#32

open BitVec in
/-- Some `+s`, `-s`, `*s` or `shl` of R203 leaves the s32 range: of S1 to S6, and of S7 to S11 where the guard G lets them
be computed. -/
def cmppOverflows (adcP : BitVec 20) (tfine : S32) (c : PressCoeffs) : Bool :=
  let adc : BitVec 32 := adcP.setWidth 32
  let p1 : BitVec 32 := c.p1.setWidth 32
  let p2 : BitVec 32 := c.p2.signExtend 32
  let p3 : BitVec 32 := c.p3.signExtend 32
  let p4 : BitVec 32 := c.p4.signExtend 32
  let p5 : BitVec 32 := c.p5.signExtend 32
  let p6 : BitVec 32 := c.p6.signExtend 32
  let p7 : BitVec 32 := c.p7.signExtend 32
  let p8 : BitVec 32 := c.p8.signExtend 32
  let p9 : BitVec 32 := c.p9.signExtend 32
  let v1 := tfine.sshiftRight 1 - 64000#32
  let q := v1.sshiftRight 2
  let s2 := (q * q).sshiftRight 11 * p6
  let s3 := s2 + (v1 * p5) <<< 1
  let s4 := s3.sshiftRight 2 + p4 <<< 16
  let e3 := (p3 * (q * q).sshiftRight 13).sshiftRight 3
  let e2 := (p2 * v1).sshiftRight 1
  let s5 := (e3 + e2).sshiftRight 18
  let d := ((32768#32 + s5) * p1).sshiftRight 15
  let s7 := ((1048576#32 - adc) - s4.sshiftRight 12) * 3125#32
  let p := if s7 < 0x80000000#32 then (s7 <<< 1) / d else (s7 / d) * 2#32
  let e9 := (p >>> 3 * (p >>> 3)) >>> 13
  let s9 := (p9 * e9).sshiftRight 12
  let s10 := (p >>> 2 * p8).sshiftRight 13
  (ssubOverflow (tfine.sshiftRight 1) 64000#32 || smulOverflow q q || smulOverflow ((q * q).sshiftRight 11) p6 ||
    smulOverflow v1 p5 || smulOverflow (v1 * p5) 2#32 || saddOverflow s2 ((v1 * p5) <<< 1) || smulOverflow p4 65536#32 ||
    saddOverflow (s3.sshiftRight 2) (p4 <<< 16) || smulOverflow p3 ((q * q).sshiftRight 13) || smulOverflow p2 v1 ||
    saddOverflow e3 e2 || saddOverflow 32768#32 s5 || smulOverflow (32768#32 + s5) p1) ||
  (d != 0#32 && (ssubOverflow 1048576#32 adc || smulOverflow p9 e9 || smulOverflow (p >>> 2) p8 || saddOverflow s9 s10 ||
    saddOverflow (s9 + s10) p7 || saddOverflow p ((s9 + s10 + p7).sshiftRight 4)))

open BitVec in
/-- Some `+s`, `-s`, `*s` or `shl` of R213 leaves the s32 range. -/
def cmphOverflows (adcH : BitVec 16) (tfine : S32) (c : HumCoeffs) : Bool :=
  let adc : BitVec 32 := adcH.setWidth 32
  let h1 : BitVec 32 := c.h1.setWidth 32
  let h2 : BitVec 32 := c.h2.signExtend 32
  let h3 : BitVec 32 := c.h3.setWidth 32
  let h4 : BitVec 32 := c.h4.signExtend 32
  let h5 : BitVec 32 := c.h5.signExtend 32
  let h6 : BitVec 32 := c.h6.signExtend 32
  let v := tfine - 76800#32
  let x1 := adc <<< 14 - h4 <<< 20 - h5 * v
  let x2 := (x1 + 16384#32).sshiftRight 15
  let y1 := (v * h6).sshiftRight 10
  let y2 := (v * h3).sshiftRight 11 + 32768#32
  let y3 := (y1 * y2).sshiftRight 10 + 2097152#32
  let y4 := (y3 * h2 + 8192#32).sshiftRight 14
  let w := x2 * y4
  let z := w.sshiftRight 15
  let zz := (z * z).sshiftRight 7
  ssubOverflow tfine 76800#32 || smulOverflow adc 16384#32 || smulOverflow h4 1048576#32 ||
    ssubOverflow (adc <<< 14) (h4 <<< 20) || smulOverflow h5 v || ssubOverflow (adc <<< 14 - h4 <<< 20) (h5 * v) ||
    saddOverflow x1 16384#32 || smulOverflow v h6 || smulOverflow v h3 || saddOverflow ((v * h3).sshiftRight 11) 32768#32 ||
    smulOverflow y1 y2 || saddOverflow ((y1 * y2).sshiftRight 10) 2097152#32 || smulOverflow y3 h2 ||
    saddOverflow (y3 * h2) 8192#32 || smulOverflow x2 y4 || smulOverflow z z || smulOverflow zz h1 ||
    ssubOverflow w ((zz * h1).sshiftRight 4)

/-- The registers that hold no value after reset (R50). -/
def noValueRegs : List HostReg :=
  [.calT1, .calT2, .calT3, .calP1, .calP2, .calP3, .calP4, .calP5, .calP6, .calP7, .calP8, .calP9,
   .calH1, .calH2, .calH3, .calH4, .calH5, .calH6, .adcP, .adcT, .adcH, .tfine, .tX100, .pX100, .hX1024,
   .mT, .mP, .mH, .mAlt, .chipId]

end Sys2Proof.Machine
end

