-- ==== Sys2Proof/Certificates/Slice0/Obligations.lean ====
section
/-! DEFINITION. The statements for the provers. Each docstring names the rule it formalises, and where the statement rests on
a choice of the spec (D<n>) or of the model (log <n>, notes/assumptions) says so. `rxbufLen s.cfg` is RXBUF_LEN (D6).
"At rest" (UPC = 0, no poll loop) is what `ControlOk` gives whenever BUSY = 0. SDO holds the byte last shifted out (R75,
R125). -/

open Sys2Proof Sys2Proof.Machine

/-! ## Encoding -/

/-- Words written out from R91, R92, R103 and R105 decode as the tables say, RXBUF_LEN being 26. The OP values are the spec's
own choice: D20; that a frame is presented with a second byte, for a read frame its length, is the model's: log 7. -/
def Obligations.SpecWordsDecode : Prop :=
  decode 26 (.frame 0b01110100#8 0b01101101#8) = .ok (.wireW 0x74#7 0x6D#8) ∧
  decode 26 (.frame 0b11110111#8 8#8) = .ok (.wireR 0x77#7 8#8) ∧
  decode 26 (.cmd 0b000000011111010001101101#24) = .ok (.bwr 0xF4#8 0x6D#8) ∧
  decode 26 (.cmd 0b000000101000100000011010#24) = .ok (.brd 0x88#8 26#8) ∧
  decode 26 (.cmd 0b000100000000000000000001#24) = .ok (.init 0b01#2) ∧
  decode 26 (.cmd 0b000100010000000000000000#24) = .ok .meas ∧
  decode 26 (.cmd 0b001000010000000000000000#24) = .ok .ldcala ∧
  decode 26 (.cmd 0b001100010000000000000000#24) = .ok .rdraw ∧
  decode 26 (.cmd 0b010000100000000000000000#24) = .ok .cmph ∧
  decode 26 (.cmd 0b010100010000000000000000#24) = .ok .alt ∧
  decode 26 (.cmd 0x990000#24) = .error .unknownOp ∧
  decode 26 (.cmd 0x400001#24) = .error .operandNotZero ∧
  decode 26 (.cmd 0x02F71B#24) = .error .burstTooLong ∧
  decode 26 (.cmd 0x100002#24) = .error .modeReserved

/-- Decoding the words of a well-formed instruction gives it back, every operand at every value its encoding admits, whatever
RXBUF_LEN. The OP values are the spec's own choice: D20; the length byte of WIRE_R and its bound are the model's: log 7. -/
def Obligations.DecodeOfEncode : Prop :=
  ∀ (len : Nat) (i : Instr), i.wf len = true → decode len (encode i) = .ok i

/-- A request that decodes is the encoding of what it decodes to, and that is well-formed: no word executes as another
command (R105). That a read frame longer than RXBUF_LEN does not decode is the model's choice, since R106 knows no illegal
frame: log 7. -/
def Obligations.EncodeOfDecode : Prop :=
  ∀ (len : Nat) (r : Request) (i : Instr), decode len r = .ok i → i.wf len = true ∧ encode i = r

/-- The command words the decoder refuses are exactly those of R105 (a) to (d), and a word that decodes is the encoding of
what it decodes to, so that none executes as another command; a refused word is not executed: it sets ERR[2] and changes
nothing else (R105, R254). The spec's own choice: D18, D20. -/
def Obligations.IllegalWordRaisesBadCmd : Prop :=
  (∀ (len : Nat) (w : BitVec 24), (∃ e, decode len (.cmd w) = .error e) ↔ IllegalWord len w) ∧
  (∀ (len : Nat) (w : BitVec 24) (i : Instr), decode len (.cmd w) = .ok i → encode i = .cmd w) ∧
  ∀ (s : State) (w : BitVec 24) (h : List HostInput), IllegalWord (rxbufLen s.cfg) w → s.busy = false → AtRest s →
    s.host = .present (.cmd w) :: h → step s = .next { s with host := h, err := s.err ||| 0b00100#5 }

/-! ## Acceptance, the held command, RST, the read port -/

/-- A presented request that decodes is executed by the next step of an idle block: the step takes it from the host's list,
sets BUSY, and is the meaning of the instruction. What one step is, is the model's choice: log 2. -/
def Obligations.StepRunsTheDecodedInstruction : Prop :=
  ∀ (s : State) (r : Request) (h : List HostInput) (i : Instr), s.busy = false → s.host = .present r :: h →
    decode (rxbufLen s.cfg) r = .ok i → step s = exec i { s with busy := true, host := h }

/-- A command presented while BUSY = 1 is held: the running command goes on and the host's list stays (R41). The spec's own
choice: D26; what one step is: log 2. -/
def Obligations.BusyHoldsTheCommand : Prop :=
  ∀ (s t : State) (r : Request) (h : List HostInput), s.busy = true → s.host = .present r :: h →
    step s = runBusy s ∧ (step s = .next t → t.host = s.host)

/-- RST, whatever was running: every flag and control register takes its reset value, HIST is emptied, the device and the
parameters stay, and no register that holds no value is readable, the bytes of RXBUF among them (R280, R281, R50). The
spec's own choice: D19; the read port is the model's: log 3. -/
def Obligations.RstRestoresTheBlock : Prop :=
  ∀ (s : State) (h : List HostInput), s.host = .rst 0 :: h → ∃ t, step s = .next t ∧
    (t.calaValid = false ∧ t.calbValid = false ∧ t.measValid = false ∧ t.idSeen = false ∧ t.mode = s.cfg.modeSleep ∧
      t.initDone = false ∧ t.cyc = 0#3 ∧ t.err = 0#5 ∧ t.upc = 0#5 ∧ t.busy = false ∧ t.pollCnt = 0 ∧ t.csn = true ∧
      t.sck = s.cfg.spiMode.idleHigh ∧ t.hist = [] ∧ t.dev = s.dev ∧ t.cfg = s.cfg ∧ t.host = h ∧
      t.rxbuf.length = rxbufLen s.cfg) ∧
    (∀ r ∈ noValueRegs, hostRead r t = none) ∧ ∀ k, hostRead (.rxbuf k) t = none

/-- The reset state has the values of R50's table under the default parameters, and its oversampling codes select x4, x4 and
x1 by the table of R101, in which 0b110 and 0b111 select x16 as 0b101 does (R35, R50, R101). The reset and the codes are the
spec's own choice: D19, D12. -/
def Obligations.ResetValues : Prop :=
  State.reset.calaValid = false ∧ State.reset.calbValid = false ∧ State.reset.measValid = false ∧
  State.reset.idSeen = false ∧ State.reset.mode = 0b00#2 ∧ State.reset.cfg.osrsT = 0b011#3 ∧
  State.reset.cfg.osrsP = 0b011#3 ∧ State.reset.cfg.osrsH = 0b001#3 ∧ State.reset.initDone = false ∧
  State.reset.cyc = 0#3 ∧ State.reset.err = 0b00000#5 ∧ State.reset.upc = 0#5 ∧ State.reset.busy = false ∧
  State.reset.pollCnt = 0 ∧ State.reset.csn = true ∧ State.reset.sck = false ∧ State.reset.hist = [] ∧
  let factor := osFactorOf State.reset.cfg.osCode
  factor State.reset.cfg.osrsT = .x4 ∧ factor State.reset.cfg.osrsP = .x4 ∧ factor State.reset.cfg.osrsH = .x1 ∧
  factor 0b000#3 = .skipped ∧ factor 0b001#3 = .x1 ∧ factor 0b010#3 = .x2 ∧ factor 0b011#3 = .x4 ∧ factor 0b100#3 = .x8 ∧
  factor 0b101#3 = .x16 ∧ factor 0b110#3 = .x16 ∧ factor 0b111#3 = .x16

/-- What the host reads: nothing while BUSY = 1; else each register as the number its type gives it, a signed one by its
sign, exactly while its guard is up, POLL_CNT only with a POLL_LIMIT, and a byte of RXBUF exactly once a burst has written
it (R20, R22 to R29, R33 to R42, R50). The spec's own choice: D16, D26; the read port is the model's: log 3. -/
def Obligations.HostReadsUnderGuard : Prop :=
  (∀ (r : HostReg) (s : State), s.busy = true → hostRead r s = none) ∧
  (∀ (s : State) (v : HostVal),
    hostRead .tfine s = some v ↔ s.busy = false ∧ 2 ≤ s.cyc.toNat ∧ v = .num s.tfine.toInt) ∧
  (∀ (s : State) (k : Nat) (v : HostVal),
    hostRead (.rxbuf k) s = some v ↔
      s.busy = false ∧ k < rxbufLen s.cfg ∧ k < s.rxHigh ∧ v = .num (s.rxbuf.getD k 0).toNat) ∧
  ∀ s : State, s.busy = false →
    (hostRead .err s = some (.num s.err.toNat) ∧ hostRead .cyc s = some (.num s.cyc.toNat) ∧
      hostRead .mode s = some (.num s.mode.toNat) ∧ hostRead .upc s = some (.num s.upc.toNat) ∧
      hostRead .initDone s = some (.num (if s.initDone then 1 else 0)) ∧
      hostRead .calaValid s = some (.num (if s.calaValid then 1 else 0)) ∧
      hostRead .calbValid s = some (.num (if s.calbValid then 1 else 0)) ∧
      hostRead .measValid s = some (.num (if s.measValid then 1 else 0)) ∧
      hostRead .idSeen s = some (.num (if s.idSeen then 1 else 0)) ∧ hostRead .busy s = some (.num 0) ∧
      hostRead .osrsT s = some (.num s.cfg.osrsT.toNat) ∧ hostRead .osrsP s = some (.num s.cfg.osrsP.toNat) ∧
      hostRead .osrsH s = some (.num s.cfg.osrsH.toNat) ∧
      hostRead .pollCnt s = (if s.cfg.pollLimit ≠ none then some (.num s.pollCnt) else none) ∧
      hostRead .chipId s = if s.idSeen then some (.num s.chipId.toNat) else none) ∧
    (hostRead .calT1 s = (if s.calaValid then some (.num s.cal.t.t1.toNat) else none) ∧
      hostRead .calT2 s = (if s.calaValid then some (.num s.cal.t.t2.toInt) else none) ∧
      hostRead .calT3 s = (if s.calaValid then some (.num s.cal.t.t3.toInt) else none) ∧
      hostRead .calP1 s = (if s.calaValid then some (.num s.cal.p.p1.toNat) else none) ∧
      hostRead .calP2 s = (if s.calaValid then some (.num s.cal.p.p2.toInt) else none) ∧
      hostRead .calP3 s = (if s.calaValid then some (.num s.cal.p.p3.toInt) else none) ∧
      hostRead .calP4 s = (if s.calaValid then some (.num s.cal.p.p4.toInt) else none) ∧
      hostRead .calP5 s = (if s.calaValid then some (.num s.cal.p.p5.toInt) else none) ∧
      hostRead .calP6 s = (if s.calaValid then some (.num s.cal.p.p6.toInt) else none) ∧
      hostRead .calP7 s = (if s.calaValid then some (.num s.cal.p.p7.toInt) else none) ∧
      hostRead .calP8 s = (if s.calaValid then some (.num s.cal.p.p8.toInt) else none) ∧
      hostRead .calP9 s = if s.calaValid then some (.num s.cal.p.p9.toInt) else none) ∧
    (hostRead .calH1 s = (if h1Valid s then some (.num s.cal.h.h1.toNat) else none) ∧
      hostRead .calH2 s = (if s.calbValid then some (.num s.cal.h.h2.toInt) else none) ∧
      hostRead .calH3 s = (if s.calbValid then some (.num s.cal.h.h3.toNat) else none) ∧
      hostRead .calH4 s = (if s.calbValid then some (.num s.cal.h.h4.toInt) else none) ∧
      hostRead .calH5 s = (if s.calbValid then some (.num s.cal.h.h5.toInt) else none) ∧
      hostRead .calH6 s = if s.calbValid then some (.num s.cal.h.h6.toInt) else none) ∧
    (hostRead .adcP s = (if 1 ≤ s.cyc.toNat then some (.num s.adcP.toNat) else none) ∧
      hostRead .adcT s = (if 1 ≤ s.cyc.toNat then some (.num s.adcT.toNat) else none) ∧
      hostRead .adcH s = (if 1 ≤ s.cyc.toNat then some (.num s.adcH.toNat) else none) ∧
      hostRead .tX100 s = (if 2 ≤ s.cyc.toNat then some (.num s.tX100.toInt) else none) ∧
      hostRead .pX100 s = (if 3 ≤ s.cyc.toNat then some (.num s.pX100.toNat) else none) ∧
      hostRead .hX1024 s = if 4 ≤ s.cyc.toNat then some (.num s.hX1024.toNat) else none) ∧
    hostRead .mT s = (if 5 ≤ s.cyc.toNat ∨ s.measValid = true then some (.flt s.mT) else none) ∧
    hostRead .mP s = (if 5 ≤ s.cyc.toNat ∨ s.measValid = true then some (.flt s.mP) else none) ∧
    hostRead .mH s = (if 5 ≤ s.cyc.toNat ∨ s.measValid = true then some (.flt s.mH) else none) ∧
    hostRead .mAlt s = if s.measValid = true then some (.flt s.mAlt) else none

/-! ## Bus Transport -/

/-- BWR a, d, command word {0x01, a, d}: the seven events of a write frame with bit 7 of the address cleared; CSN is 1 again
and no other register changes (R123). The command word is the spec's own choice: D20; that a device of the oracle
kind keeps its state is the model's: log 4. -/
def Obligations.BwrSendsTheWriteFrame : Prop :=
  ∀ a d : Byte, (∀ len, decode len (.cmd (0x01#8 ++ a ++ d)) = .ok (.bwr a d)) ∧
    ∀ s : State, ∃ t, exec (.bwr a d) s = .next t ∧
      t = { s with csn := true, sdo := d, hist := s.hist ++ writeEvents (a &&& 0x7F#8) d, dev := t.dev, busy := false } ∧
      (s.dev.kind = .oracle → t.dev = s.dev)

/-- WIRE_W: the write frame goes out as it stands, its first byte 0aaaaaaa (R91). That a frame is an instruction of its own
is the model's choice: log 7. -/
def Obligations.WireWSendsTheFrame : Prop :=
  ∀ (a : BitVec 7) (d : Byte) (s : State), ∃ t, exec (.wireW a d) s = .next t ∧
    t = { s with csn := true, sdo := d, hist := s.hist ++ writeEvents (0#1 ++ a) d, dev := t.dev, busy := false } ∧
    (s.dev.kind = .oracle → t.dev = s.dev)

/-- BRD a, n, command word {0x02, a, n}. For n <= RXBUF_LEN: the events of a read frame with bit 7 of the address set and n
data bytes; those bytes stand in RXBUF[0 .. n-1], the rest of RXBUF and every other register are unchanged. For
n > RXBUF_LEN: refused with BAD_CMD, without a bus event (R124, R129). The bound, 26 by default, and the command word are
the spec's own choice: D6, D20. rxHigh and draws are the model's own: log 3, 4. -/
def Obligations.BrdReadsTheBurst : Prop :=
  ∀ (a n : Byte) (s : State),
    (n.toNat ≤ rxbufLen s.cfg → decode (rxbufLen s.cfg) (.cmd (0x02#8 ++ a ++ n)) = .ok (.brd a n) ∧
      ∃ t bs, exec (.brd a n) s = .next t ∧ bs.length = n.toNat ∧
        t = { s with csn := true, sdo := if n = 0#8 then a ||| 0x80#8 else s.cfg.rdFill,
                     rxbuf := bs ++ s.rxbuf.drop n.toNat, rxHigh := max s.rxHigh n.toNat,
                     hist := s.hist ++ readEvents (a ||| 0x80#8) bs, dev := t.dev, draws := t.draws, busy := false }) ∧
    (rxbufLen s.cfg < n.toNat → decode (rxbufLen s.cfg) (.cmd (0x02#8 ++ a ++ n)) = .error .burstTooLong ∧
      (AtRest s → exec (.brd a n) s = .next { s with err := s.err ||| 0b00100#5, busy := false }))

/-- WIRE_R with n data bytes. For n <= RXBUF_LEN: as BRD, its first byte 1aaaaaaa (R92). For n > RXBUF_LEN: refused with
BAD_CMD, without a bus event. That a frame is an instruction of its own, presented with its length, and that a long one is
refused, is the model's choice: log 7. rxHigh and draws are the model's own: log 3, 4. -/
def Obligations.WireRReadsTheBurst : Prop :=
  ∀ (a : BitVec 7) (n : Byte) (s : State),
    (n.toNat ≤ rxbufLen s.cfg → decode (rxbufLen s.cfg) (.frame (1#1 ++ a) n) = .ok (.wireR a n) ∧
      ∃ t bs, exec (.wireR a n) s = .next t ∧ bs.length = n.toNat ∧
        t = { s with csn := true, sdo := if n = 0#8 then 1#1 ++ a else s.cfg.rdFill,
                     rxbuf := bs ++ s.rxbuf.drop n.toNat, rxHigh := max s.rxHigh n.toNat,
                     hist := s.hist ++ readEvents (1#1 ++ a) bs, dev := t.dev, draws := t.draws, busy := false }) ∧
    (rxbufLen s.cfg < n.toNat → decode (rxbufLen s.cfg) (.frame (1#1 ++ a) n) = .error .burstTooLong ∧
      (AtRest s → exec (.wireR a n) s = .next { s with err := s.err ||| 0b00100#5, busy := false }))

/-- Whatever bytes the device answers, those are the bytes BRD delivers, in arrival order: none is checked (R73, R126). A
list of answers known beforehand is the model's: log 4. -/
def Obligations.BrdDeliversAnyBytes : Prop :=
  ∀ (a : Byte) (s : State) (bs rest : List Byte), bs.length ≤ rxbufLen s.cfg → bs.length < 256 → Answers s bs rest →
    ∃ t, exec (.brd a (BitVec.ofNat 8 bs.length)) s = .next t ∧ t.rxbuf = bs ++ s.rxbuf.drop bs.length ∧
      t.hist = s.hist ++ readEvents (a ||| 0x80#8) bs ∧ Answers t rest [] ∧ t.draws = s.draws ∧ t.err = s.err

/-- Bit 7 of the register address given to BWR and BRD is ignored (R93). -/
def Obligations.AddressBit7IsIgnored : Prop :=
  ∀ (a d n : Byte) (s : State), exec (.bwr (a ^^^ 0x80#8) d) s = exec (.bwr a d) s ∧
    exec (.brd (a ^^^ 0x80#8) n) s = exec (.brd a n) s

/-- On a reference device, the instructions that write store their byte in the location they name, and no other location
changes; the status register and the raw-data region may change by the device's own doing at a write of the combined
control register, and where the device runs freely or has a sample to store (R67 to R69, R74). The reference device is
R74's as the model completes it: log 5. -/
def Obligations.WritesStoreOneByteOfTheDevice : Prop :=
  ∀ s : State, s.dev.kind = .reference → memWf s.dev.reg = true →
    (∀ a d : Byte, ∃ t, exec (.bwr a d) s = .next t ∧ StoresByte s.cfg (wireAddr a) d s.dev t.dev) ∧
    (∀ (a : BitVec 7) (d : Byte), ∃ t, exec (.wireW a d) s = .next t ∧ StoresByte s.cfg a d s.dev t.dev) ∧
    (∃ t, exec .wros s = .next t ∧ StoresByte s.cfg (wireAddr s.cfg.addrCtrlMeas)
      (packCtrl s.cfg.osrsT s.cfg.osrsP s.cfg.modeSleep) s.dev t.dev) ∧
    (∃ t, exec .wrhum s = .next t ∧ StoresByte s.cfg (wireAddr s.cfg.addrCtrlHum) (packHum s.cfg.osrsH) s.dev t.dev) ∧
    (∃ t, exec .wrctl s = .next t ∧ StoresByte s.cfg (wireAddr s.cfg.addrCtrlMeas)
      (packCtrl s.cfg.osrsT s.cfg.osrsP s.mode) s.dev t.dev)

/-- An instruction that writes no device register leaves every location of the device as it was, but for the status
register, which a poll of a converting reference device counts down, and the raw-data region, which takes the samples of its
conversions; those stay as well while the device converts nothing, so that in Sleep the raw data are kept (R69, R74, R79).
The reference device is R74's as the model completes it: log 5. -/
def Obligations.ReadsStoreNothingInTheDevice : Prop :=
  ∀ (i : Instr) (s t : State), i ∉ [.wros, .wrhum, .wrctl] → (∀ a d, i ≠ .bwr a d) → (∀ a d, i ≠ .wireW a d) →
    memWf s.dev.reg = true → exec i s = .next t →
    ∀ x : BitVec 7, x ∉ devOwn s.cfg ∨ (Quiet s.dev ∧ s.dev.conv = 0) → memRead t.dev.reg x.toNat = memRead s.dev.reg x.toNat

/-- On a reference device, byte i of a burst from wire address w is the content of location w + i, for each i with w + i at
most 0x7F, also in a burst that runs past 0x7F (R66, R74). The reference device is R74's as the model completes it, its samples entering between frames: log 5. -/
def Obligations.ReferenceDeviceAnswersABurst : Prop :=
  ∀ (a n : Byte) (s : State), s.dev.kind = .reference → memWf s.dev.reg = true → n.toNat ≤ rxbufLen s.cfg →
    ∃ t bs, exec (.brd a n) s = .next t ∧ bs.length = n.toNat ∧ t.rxbuf = bs ++ s.rxbuf.drop n.toNat ∧
      t.hist = s.hist ++ readEvents (a ||| 0x80#8) bs ∧
      ∀ i, i < n.toNat → (wireAddr a).toNat + i ≤ 0x7F → byteAt bs i = memRead s.dev.reg ((wireAddr a).toNat + i)

/-- A reference device: with N >= 1 a Forced write starts one conversion, bit 3 set, CONV starting at N whatever it was; a
poll with CONV >= 2 counts it down by one and leaves bit 3; the poll that counts it to its end clears bit 3, stores the
sample in the raw-data region and returns the device to Sleep; with N = 0 the Forced write itself does so; a device told
Normal stays so, also past the end of a triggered conversion (R46, R68, R69, R74). The reference device is R74's as the model
completes it, and a sample known beforehand is the model's: log 5. -/
def Obligations.ReferenceDeviceConverts : Prop :=
  ∀ (s : State) (x : List Byte) (rest : List (List Byte)), s.dev.kind = .reference → memWf s.dev.reg = true →
    s.dev.sampleDue = false → s.dev.samples = x :: rest → x.length = 8 → (wireAddr s.cfg.addrData).toNat + 8 ≤ 128 →
    wireAddr s.cfg.addrStatus ∉ devDataRegion s.cfg →
    (∀ v : Byte, ctrlMode v = s.cfg.modeForced → s.dev.convLen ≠ 0 → ∃ t, exec (.bwr s.cfg.addrCtrlMeas v) s = .next t ∧
      t.dev.opMode = .forced ∧ t.dev.conv = s.dev.convLen ∧ t.dev.samples = s.dev.samples ∧
      statusBusy (memRead t.dev.reg (wireAddr s.cfg.addrStatus).toNat) = true) ∧
    (∀ v : Byte, ctrlMode v = s.cfg.modeForced → s.dev.convLen = 0 → ∃ t, exec (.bwr s.cfg.addrCtrlMeas v) s = .next t ∧
      t.dev.opMode = .sleep ∧ t.dev.conv = 0 ∧ t.dev.samples = rest ∧
      statusBusy (memRead t.dev.reg (wireAddr s.cfg.addrStatus).toNat) = false ∧
      ∀ i, i < 8 → memRead t.dev.reg ((wireAddr s.cfg.addrData).toNat + i) = byteAt x i) ∧
    (s.initDone = true → s.dev.stuck = false → 2 ≤ s.dev.conv → ∃ t, exec .poll s = .next t ∧
      t.dev.conv = s.dev.conv - 1 ∧ t.dev.opMode = s.dev.opMode ∧
      memRead t.dev.reg (wireAddr s.cfg.addrStatus).toNat = memRead s.dev.reg (wireAddr s.cfg.addrStatus).toNat) ∧
    (s.initDone = true → s.dev.stuck = false → s.dev.conv = 1 → s.dev.opMode = .forced → ∃ t, exec .poll s = .next t ∧
      t.dev.opMode = .sleep ∧ t.dev.conv = 0 ∧ t.dev.samples = rest ∧
      statusBusy (memRead t.dev.reg (wireAddr s.cfg.addrStatus).toNat) = false ∧
      ∀ i, i < 8 → memRead t.dev.reg ((wireAddr s.cfg.addrData).toNat + i) = byteAt x i) ∧
    (∀ v : Byte, ctrlMode v = s.cfg.modeNormal → s.cfg.modeNormal ≠ s.cfg.modeForced →
      ∃ t, exec (.bwr s.cfg.addrCtrlMeas v) s = .next t ∧ t.dev.opMode = .normal) ∧
    (s.initDone = true → s.dev.opMode = .normal → ∃ t, exec .poll s = .next t ∧ t.dev.opMode = .normal)

/-- On a reference device, WROS alone puts into effect only what was pending, and WROS, WRHUM, WRCTL in this order put all
three oversampling settings into effect at the last write, whatever MODE is (R47, R70, R286 b, c). The reference device is
R74's as the model completes it: log 5. -/
def Obligations.OversamplingTakesEffectAtTheLastWrite : Prop :=
  ∀ s : State, s.dev.kind = .reference → wireAddr s.cfg.addrCtrlHum ≠ wireAddr s.cfg.addrCtrlMeas →
    devModeOf s.cfg s.cfg.modeSleep = .sleep →
    ∃ a b c, exec .wros s = .next a ∧ exec .wrhum a = .next b ∧ exec .wrctl b = .next c ∧
      a.dev.active = s.dev.pending ∧ b.dev.active = s.dev.pending ∧
      c.dev.active = { t := s.cfg.osrsT, p := s.cfg.osrsP, h := s.cfg.osrsH }

/-! ## Initialization -/

/-- RDID, command word 0x200000, stores the byte read from ADDR_ID in CHIP_ID and sets ID_SEEN; ERR[0] is set only with
ID_STRICT and a byte other than 0x60; nothing else changes (R141, R252). The command word and the hardening are the spec's
own choice: D20, D17; rxHigh and draws are the model's own: log 3, 4. -/
def Obligations.RdidStoresTheIdentity : Prop :=
  (∀ len, decode len (.cmd 0x200000#24) = .ok .rdid) ∧ ∀ s : State, AtRest s → ∃ t b, exec .rdid s = .next t ∧
    t = { s with chipId := b, idSeen := true, rxbuf := b :: s.rxbuf.drop 1, rxHigh := max s.rxHigh 1, csn := true,
                 sdo := s.cfg.rdFill, hist := s.hist ++ readEvents (s.cfg.addrId ||| 0x80#8) [b], dev := t.dev,
                 draws := t.draws, busy := false,
                 err := if s.cfg.idStrict = true ∧ b ≠ 0x60#8 then s.err ||| 0b00001#5 else s.err }

/-- LDCALA, not yet loaded: one burst of 26 bytes; T1 to T3 and P1 to P9 are the little-endian pairs at offsets 0 to 22, H1
the byte H1_SRC names in block A, H2 to H6 unchanged, CALA_VALID set, nothing else changed (R143, R145). The layout is the
spec's own choice: D9. -/
def Obligations.LdcalaLoadsBlockA : Prop :=
  ∀ s : State, s.calaValid = false → ∃ t A, exec .ldcala s = .next t ∧ A.length = 26 ∧
    t = { s with
      cal := { t := { t1 := byteAt A 1 ++ byteAt A 0, t2 := byteAt A 3 ++ byteAt A 2, t3 := byteAt A 5 ++ byteAt A 4 }
               p := { p1 := byteAt A 7 ++ byteAt A 6, p2 := byteAt A 9 ++ byteAt A 8, p3 := byteAt A 11 ++ byteAt A 10,
                      p4 := byteAt A 13 ++ byteAt A 12, p5 := byteAt A 15 ++ byteAt A 14,
                      p6 := byteAt A 17 ++ byteAt A 16, p7 := byteAt A 19 ++ byteAt A 18,
                      p8 := byteAt A 21 ++ byteAt A 20, p9 := byteAt A 23 ++ byteAt A 22 }
               h := { s.cal.h with h1 := match s.cfg.h1Src with
                                         | .blockA k => byteAt A k.val
                                         | .blockB _ => s.cal.h.h1 } }
      calaValid := true, rxbuf := A ++ s.rxbuf.drop 26, rxHigh := max s.rxHigh 26, csn := true, sdo := s.cfg.rdFill,
      hist := s.hist ++ readEvents (s.cfg.addrCalA ||| 0x80#8) A, dev := t.dev, draws := t.draws, busy := false }

/-- LDCALB, not yet loaded: one burst of 8 bytes; H2 the little-endian pair at 0, H3 byte 2, H4 and H5 the unsigned packed
pair of bytes 3 to 5, H6 byte 6, H1 the byte H1_SRC names in block B, T and P unchanged, CALB_VALID set, nothing else
changed (R146 to R149). The layout and the unsigned reading are the spec's own choice: D9, D10. -/
def Obligations.LdcalbLoadsBlockB : Prop :=
  ∀ s : State, s.calbValid = false → ∃ t B, exec .ldcalb s = .next t ∧ B.length = 8 ∧
    t = { s with cal := t.cal, calbValid := true, rxbuf := B ++ s.rxbuf.drop 8, rxHigh := max s.rxHigh 8, csn := true,
                 sdo := s.cfg.rdFill, hist := s.hist ++ readEvents (s.cfg.addrCalB ||| 0x80#8) B, dev := t.dev,
                 draws := t.draws, busy := false } ∧
    t.cal.t = s.cal.t ∧ t.cal.p = s.cal.p ∧
    t.cal.h.h1 = (match s.cfg.h1Src with | .blockA _ => s.cal.h.h1 | .blockB k => byteAt B k.val) ∧
    t.cal.h.h2 = byteAt B 1 ++ byteAt B 0 ∧ t.cal.h.h3 = byteAt B 2 ∧
    t.cal.h.h4.toNat = (byteAt B 3).toNat * 16 + (byteAt B 4).toNat % 16 ∧
    t.cal.h.h5.toNat = (byteAt B 4).toNat / 16 + (byteAt B 5).toNat * 16 ∧ t.cal.h.h6 = byteAt B 6

/-- A second load of a calibration block is refused with BAD_SEQ: no bus event, no register changed but ERR[3]; and no step
but RST clears a flag that says a block is loaded (R152). The refusal is the spec's own choice: D27. -/
def Obligations.SecondLoadIsRefused : Prop :=
  (∀ s : State, AtRest s →
    (s.calaValid = true → exec .ldcala s = .next { s with err := s.err ||| 0b01000#5, busy := false }) ∧
    (s.calbValid = true → exec .ldcalb s = .next { s with err := s.err ||| 0b01000#5, busy := false })) ∧
  ∀ s t : State, NotRst s → step s = .next t →
    (s.calaValid = true → t.calaValid = true) ∧ (s.calbValid = true → t.calbValid = true)

/-- The three configuration writes, command words 0x230000, 0x240000, 0x250000: WROS sends the oversampling codes with the
Sleep code, WRHUM the humidity code in bits 2:0, WRCTL the oversampling codes with MODE, each as one write frame, and
nothing else changes (R155, R156, R157). The target and value of WROS, the layout of the humidity byte and the command words
are the spec's own choice: D13, D12, D20; that a device of the oracle kind keeps its state is the model's: log 4. -/
def Obligations.ConfigurationWrites : Prop :=
  (∀ len, decode len (.cmd 0x230000#24) = .ok .wros ∧ decode len (.cmd 0x240000#24) = .ok .wrhum ∧
    decode len (.cmd 0x250000#24) = .ok .wrctl) ∧ ∀ s : State,
    (∃ t d, exec .wros s = .next t ∧
      d.toNat = s.cfg.osrsT.toNat * 32 + s.cfg.osrsP.toNat * 4 + s.cfg.modeSleep.toNat ∧
      t = { s with csn := true, sdo := d, hist := s.hist ++ writeEvents (s.cfg.addrCtrlMeas &&& 0x7F#8) d, dev := t.dev,
                   busy := false } ∧ (s.dev.kind = .oracle → t.dev = s.dev)) ∧
    (∃ t d, exec .wrhum s = .next t ∧ d.toNat = s.cfg.osrsH.toNat ∧
      t = { s with csn := true, sdo := d, hist := s.hist ++ writeEvents (s.cfg.addrCtrlHum &&& 0x7F#8) d, dev := t.dev,
                   busy := false } ∧ (s.dev.kind = .oracle → t.dev = s.dev)) ∧
    (∃ t d, exec .wrctl s = .next t ∧
      d.toNat = s.cfg.osrsT.toNat * 32 + s.cfg.osrsP.toNat * 4 + s.mode.toNat ∧
      t = { s with csn := true, sdo := d, hist := s.hist ++ writeEvents (s.cfg.addrCtrlMeas &&& 0x7F#8) d, dev := t.dev,
                   busy := false } ∧ (s.dev.kind = .oracle → t.dev = s.dev))

/-- Packing puts the three fields of the combined control value at bits 7:5, 4:2 and 1:0, unpacking takes them from there,
and the two are inverse in both directions (R96, R97). -/
def Obligations.ControlValueRoundTrip : Prop :=
  (∀ (t p : BitVec 3) (m : BitVec 2), (packCtrl t p m).toNat = t.toNat * 32 + p.toNat * 4 + m.toNat) ∧
  (∀ v : Byte, (unpackCtrl v).1.toNat = v.toNat / 32 ∧ (unpackCtrl v).2.1.toNat = v.toNat / 4 % 8 ∧
    (unpackCtrl v).2.2.toNat = v.toNat % 4) ∧
  (∀ v : Byte, packCtrl (unpackCtrl v).1 (unpackCtrl v).2.1 (unpackCtrl v).2.2 = v) ∧
  (∀ (t p : BitVec 3) (m : BitVec 2), unpackCtrl (packCtrl t p m) = (t, p, m))

/-- INIT m is refused with BAD_CMD for m = 0b10, whatever INIT_DONE is, and with BAD_SEQ for a legal m after an INIT; else
it is accepted: MODE <- m, UPC <- {1, 0}, BUSY = 1 (R160, R161, R261). The refusals are the spec's own choice: D20, D27. -/
def Obligations.InitIsAcceptedOrRefused : Prop :=
  ∀ (m : BitVec 2) (s : State), AtRest s → exec (.init m) s =
    if m = 0b10#2 then .next { s with err := s.err ||| 0b00100#5, busy := false }
    else if s.initDone = true then .next { s with err := s.err ||| 0b01000#5, busy := false }
    else .next { s with mode := m, upc := 0b01000#5, busy := true }

/-- INIT runs to its end: without ID_STRICT or with the right identity, from a block whose calibration is not loaded, six
steps after its acceptance the identity and both calibration blocks are read, the three control writes made, in R140's
order, CAL is unpacked from the two blocks, RXBUF holds block B over block A, and INIT_DONE is set (R160, R162). That a step of the macro is one step of the machine is the model's choice: log 2. -/
def Obligations.InitCompletes : Prop :=
  ∀ (m : BitVec 2) (s : State), m ≠ 0b10#2 → AtRest s → NoRstNext s → s.initDone = false → s.calaValid = false →
    s.calbValid = false → (s.cfg.idStrict = false ∨ ∃ rest, Answers s [0x60#8] rest) →
    ∃ t u id A B d0 dh d1, exec (.init m) s = .next t ∧ Sys2Proof.core.run 6 t = .next u ∧
      A.length = 26 ∧ B.length = 8 ∧
      d0.toNat = s.cfg.osrsT.toNat * 32 + s.cfg.osrsP.toNat * 4 + s.cfg.modeSleep.toNat ∧
      dh.toNat = s.cfg.osrsH.toNat ∧ d1.toNat = s.cfg.osrsT.toNat * 32 + s.cfg.osrsP.toNat * 4 + m.toNat ∧
      u = { s with
        cal := calAfterB s.cfg.h1Src B (calAfterA s.cfg.h1Src A s.cal), calaValid := true, calbValid := true,
        chipId := id, idSeen := true, mode := m, initDone := true,
        rxbuf := B ++ A.drop 8 ++ s.rxbuf.drop 26, rxHigh := max s.rxHigh 26, upc := 0#5, busy := false, csn := true, sdo := d1,
        hist := s.hist ++ readEvents (s.cfg.addrId ||| 0x80#8) [id] ++ readEvents (s.cfg.addrCalA ||| 0x80#8) A ++
          readEvents (s.cfg.addrCalB ||| 0x80#8) B ++ writeEvents (s.cfg.addrCtrlMeas &&& 0x7F#8) d0 ++
          writeEvents (s.cfg.addrCtrlHum &&& 0x7F#8) dh ++ writeEvents (s.cfg.addrCtrlMeas &&& 0x7F#8) d1,
        dev := u.dev, draws := u.draws }

/-- INIT aborts at I0 with ID_MISMATCH when, under ID_STRICT, the device answers another identity: CHIP_ID, ID_SEEN and MODE
are written, nothing is loaded; and past I0 it aborts with BAD_SEQ at I1 when block A was loaded by the host, or, block A
loaded by it, at I2 when block B was. INIT_DONE stays 0, UPC <- 0, and the block is idle (R152, R160, R252, R256, R286 k).
The spec's own choice: D17, D18, D27; one step of the macro is one step of the machine: log 2. -/
def Obligations.InitAborts : Prop :=
  (∀ (m : BitVec 2) (s : State) (b : Byte) (rest : List Byte), m ≠ 0b10#2 → AtRest s → NoRstNext s → s.initDone = false →
    s.cfg.idStrict = true → b ≠ 0x60#8 → Answers s [b] rest →
    ∃ t u, exec (.init m) s = .next t ∧ step t = .next u ∧
      u = { s with mode := m, chipId := b, idSeen := true, err := s.err ||| 0b00001#5, rxbuf := b :: s.rxbuf.drop 1,
                   rxHigh := max s.rxHigh 1, upc := 0#5, busy := false, csn := true, sdo := s.cfg.rdFill,
                   hist := s.hist ++ readEvents (s.cfg.addrId ||| 0x80#8) [b], dev := { s.dev with answers := rest } }) ∧
  ∀ (m : BitVec 2) (s : State), m ≠ 0b10#2 → AtRest s → NoRstNext s → s.initDone = false →
    (s.cfg.idStrict = false ∨ ∃ rest, Answers s [0x60#8] rest) →
    (s.calaValid = true → ∃ t u id, exec (.init m) s = .next t ∧ Sys2Proof.core.run 2 t = .next u ∧
      u = { s with mode := m, chipId := id, idSeen := true, err := s.err ||| 0b01000#5, rxbuf := id :: s.rxbuf.drop 1,
                   rxHigh := max s.rxHigh 1, upc := 0#5, busy := false, csn := true, sdo := s.cfg.rdFill,
                   hist := s.hist ++ readEvents (s.cfg.addrId ||| 0x80#8) [id], dev := u.dev, draws := u.draws }) ∧
    (s.calaValid = false → s.calbValid = true → ∃ t u id A, exec (.init m) s = .next t ∧
      Sys2Proof.core.run 3 t = .next u ∧ A.length = 26 ∧
      u = { s with mode := m, chipId := id, idSeen := true, cal := calAfterA s.cfg.h1Src A s.cal, calaValid := true,
                   err := s.err ||| 0b01000#5, rxbuf := A ++ s.rxbuf.drop 26, rxHigh := max s.rxHigh 26, upc := 0#5,
                   busy := false, csn := true, sdo := s.cfg.rdFill,
                   hist := s.hist ++ readEvents (s.cfg.addrId ||| 0x80#8) [id] ++
                     readEvents (s.cfg.addrCalA ||| 0x80#8) A, dev := u.dev, draws := u.draws })

/-! ## Measurement -/

/-- POLL, initialized: one status read; bit 3 clear ends it; bit 3 set raises POLL_TIMEOUT when POLL_LIMIT is 1, and else
emits DLY(POLL) and polls on with BUSY = 1; POLL_CNT counts only with a limit (R174, R253). The place of the delay and the
limit are the spec's own choice: D14, D17; one iteration a step: log 2. -/
def Obligations.PollReadsTheStatus : Prop :=
  ∀ s : State, AtRest s → s.initDone = true → ∃ t b, exec .poll s = .next t ∧
    (let atLimit := match s.cfg.pollLimit with
                    | none => false
                    | some l => decide (l ≤ 1)
     let goesOn := b.getLsbD 3 && !atLimit
     t = { s with
       rxbuf := b :: s.rxbuf.drop 1, rxHigh := max s.rxHigh 1, csn := true, sdo := s.cfg.rdFill,
       pollCnt := if s.cfg.pollLimit.isSome then 1 else 0,
       hist := s.hist ++ readEvents (s.cfg.addrStatus ||| 0x80#8) [b] ++ (if goesOn then [.dly .poll] else []),
       err := if b.getLsbD 3 && atLimit then s.err ||| 0b00010#5 else s.err,
       busy := goesOn, polling := goesOn, dev := t.dev, draws := t.draws })

/-- Without POLL_LIMIT, on a reference device whose conversion never ends, a MEAS at its poll loop is there after any number
of steps, BUSY = 1 and UPC = {2, 1}, seven events longer each time: it hangs and never stops (R175, R270). One iteration is
one step by the model's choice: log 2; the stuck device is R74's: log 5. -/
def Obligations.PollOfAStuckDeviceNeverEnds : Prop :=
  ∀ (s : State) (k : Nat), s.busy = true → s.upc = 0b10001#5 → s.initDone = true → s.cfg.pollLimit = none → NoRstNext s →
    s.dev.kind = .reference → s.dev.stuck = true → s.dev.sampleDue = false →
    statusBusy (memRead s.dev.reg (wireAddr s.cfg.addrStatus).toNat) = true →
    ∃ t, Sys2Proof.core.run k s = .next t ∧ t.busy = true ∧ t.upc = 0b10001#5 ∧ t.err = s.err ∧
      t.hist.length = s.hist.length + 7 * k

/-- With POLL_LIMIT = L >= 1, a POLL of a reference device whose conversion never ends raises POLL_TIMEOUT at its L-th
status read, with L - 1 delays between the reads and the block idle; and a MEAS in Forced mode whose first L status bytes
have bit 3 set aborts at M1: the re-arming write and L reads are made, RXBUF[0] is the last status byte, ERR[1] is set,
UPC <- 0, and no other register changes, so no raw burst is read (R174, R253, R256). The spec's own choice: D17, D18; one iteration a step: log 2; the stuck
device is R74's: log 5; POLL_CNT's place and rxHigh: log 3. -/
def Obligations.PollLimitEndsThePoll : Prop :=
  (∀ (s : State) (l : Nat), AtRest s → s.initDone = true → s.cfg.pollLimit = some (l + 1) → NoRstNext s →
    s.dev.kind = .reference → s.dev.stuck = true → s.dev.sampleDue = false →
    statusBusy (memRead s.dev.reg (wireAddr s.cfg.addrStatus).toNat) = true →
    ∃ t u, exec .poll s = .next t ∧ Sys2Proof.core.run l t = .next u ∧ u.err = s.err ||| 0b00010#5 ∧ u.busy = false ∧
      u.polling = false ∧ u.pollCnt = l + 1 ∧ u.hist.length = s.hist.length + 6 * (l + 1) + l ∧
      u.cyc = s.cyc ∧ u.measValid = s.measValid) ∧
  ∀ (s : State) (l : Nat) (bs rest : List Byte), s.initDone = true → NoRstNext s → s.polling = false →
    s.mode = s.cfg.modeForced → s.cfg.pollLimit = some (l + 1) → bs.length = l + 1 → (∀ b ∈ bs, b.getLsbD 3 = true) →
    Answers s bs rest →
    ∃ t u d, exec .meas s = .next t ∧ Sys2Proof.core.run (l + 2) t = .next u ∧
      d.toNat = s.cfg.osrsT.toNat * 32 + s.cfg.osrsP.toNat * 4 + s.mode.toNat ∧
      u = { s with
        pollCnt := l + 1, err := s.err ||| 0b00010#5, rxbuf := bs.getLastD 0#8 :: s.rxbuf.drop 1, rxHigh := max s.rxHigh 1, upc := 0#5,
        busy := false, csn := true, sdo := s.cfg.rdFill,
        hist := s.hist ++ writeEvents (s.cfg.addrCtrlMeas &&& 0x7F#8) d ++ pollEvents (s.cfg.addrStatus ||| 0x80#8) bs,
        dev := { s.dev with answers := rest } }

/-- RDRAW, command word 0x310000, initialized: one burst of 8 bytes from ADDR_DATA; the three raw registers are its
big-endian fields, the low nibbles of bytes 2 and 5 dropped; CYC <- 1; nothing else changes; not initialized: refused with
BAD_SEQ (R171, R176, R177). The bit positions, the refusal and the command word are the spec's own choice: D11, D16, D20;
rxHigh and draws are the model's own: log 3, 4. -/
def Obligations.RdrawUnpacksTheBurst : Prop :=
  (∀ len, decode len (.cmd 0x310000#24) = .ok .rdraw) ∧
  (∀ s : State, AtRest s → s.initDone = false →
    exec .rdraw s = .next { s with err := s.err ||| 0b01000#5, busy := false }) ∧
  ∀ s : State, s.initDone = true → ∃ t D, exec .rdraw s = .next t ∧ D.length = 8 ∧
    t = { s with adcP := t.adcP, adcT := t.adcT, adcH := t.adcH, cyc := 1#3, rxbuf := D ++ s.rxbuf.drop 8,
                 rxHigh := max s.rxHigh 8, csn := true, sdo := s.cfg.rdFill,
                 hist := s.hist ++ readEvents (s.cfg.addrData ||| 0x80#8) D, dev := t.dev, draws := t.draws,
                 busy := false } ∧
    t.adcP.toNat = (byteAt D 0).toNat * 4096 + (byteAt D 1).toNat * 16 + (byteAt D 2).toNat / 16 ∧
    t.adcT.toNat = (byteAt D 3).toNat * 4096 + (byteAt D 4).toNat * 16 + (byteAt D 5).toNat / 16 ∧
    t.adcH.toNat = (byteAt D 6).toNat * 256 + (byteAt D 7).toNat

/-- MEAS, initialized, is accepted: UPC <- {2, 0}, BUSY = 1, nothing else; its step M0 re-arms in Forced mode and goes to
the poll, and in another mode goes to M2 without a bus event (R172, R173). That M0 is one step of the machine is the model's
choice: log 2. -/
def Obligations.MeasEntersAndBranches : Prop :=
  ∀ s : State, s.initDone = true → NoRstNext s →
    exec .meas s = .next { s with upc := 0b10000#5, busy := true } ∧
    (s.mode ≠ s.cfg.modeForced →
      step { s with upc := 0b10000#5, busy := true } = .next { s with upc := 0b10010#5, busy := true }) ∧
    (s.mode = s.cfg.modeForced → ∃ t d, step { s with upc := 0b10000#5, busy := true } = .next t ∧
      d.toNat = s.cfg.osrsT.toNat * 32 + s.cfg.osrsP.toNat * 4 + s.mode.toNat ∧
      t = { s with csn := true, sdo := d, hist := s.hist ++ writeEvents (s.cfg.addrCtrlMeas &&& 0x7F#8) d, dev := t.dev,
                   upc := 0b10001#5, busy := true })

/-- MEAS in Normal or Sleep mode runs to its end: seven steps after its acceptance one raw burst has been read, no control
write and no status read made, and a complete record stands, computed from that burst by the bodies of COMP_BODY, both CMPP
and CMPH from the FineTemperature of this cycle (R172, R177, R179, R181, R232, R236). One step of the macro is one step of
the machine: log 2; FLT, rnd and the power function are open, and draws is the model's own: log 9; the bodies other than the
reference: log 13. -/
def Obligations.MeasCompletesOutsideForced : Prop :=
  ∀ s : State, s.initDone = true → NoRstNext s → s.mode ≠ s.cfg.modeForced → s.cfg.overflow = .wrap →
    s.calaValid = true → s.calbValid = true →
    ∃ t u D, exec .meas s = .next t ∧ Sys2Proof.core.run 7 t = .next u ∧ D.length = 8 ∧ MeasuredFrom s D u ∧
      u = { s with
        adcP := u.adcP, adcT := u.adcT, adcH := u.adcH, tfine := u.tfine, tX100 := u.tX100, pX100 := u.pX100,
        hX1024 := u.hX1024, mT := u.mT, mP := u.mP, mH := u.mH, mAlt := u.mAlt, measValid := true, cyc := 6#3,
        upc := 0#5, busy := false, rxbuf := D ++ s.rxbuf.drop 8, rxHigh := max s.rxHigh 8, csn := true,
        sdo := s.cfg.rdFill, hist := s.hist ++ readEvents (s.cfg.addrData ||| 0x80#8) D, dev := u.dev, draws := u.draws }

/-- MEAS in Forced mode whose first status byte has bit 3 clear runs to its end in eight steps: the re-arming write, one
status read without a delay, the raw burst, and a complete record computed from that burst (R172 to R174, R177, R180, R232,
R236). One step of the macro is one step of the machine: log 2; FLT, rnd and the power function are open, and draws is the
model's own: log 9; the bodies other than the reference: log 13; answers known beforehand: log 4. -/
def Obligations.MeasCompletesInForced : Prop :=
  ∀ (s : State) (b : Byte) (D rest : List Byte), s.initDone = true → NoRstNext s → s.polling = false →
    s.mode = s.cfg.modeForced → s.cfg.overflow = .wrap → s.calaValid = true → s.calbValid = true → D.length = 8 →
    b.getLsbD 3 = false → Answers s (b :: D) rest →
    ∃ t u d, exec .meas s = .next t ∧ Sys2Proof.core.run 8 t = .next u ∧
      d.toNat = s.cfg.osrsT.toNat * 32 + s.cfg.osrsP.toNat * 4 + s.mode.toNat ∧ MeasuredFrom s D u ∧
      u = { s with
        adcP := u.adcP, adcT := u.adcT, adcH := u.adcH, tfine := u.tfine, tX100 := u.tX100, pX100 := u.pX100,
        hX1024 := u.hX1024, mT := u.mT, mP := u.mP, mH := u.mH, mAlt := u.mAlt, measValid := true, cyc := 6#3,
        upc := 0#5, busy := false, pollCnt := if s.cfg.pollLimit.isSome then 1 else 0,
        rxbuf := D ++ s.rxbuf.drop 8, rxHigh := max s.rxHigh 8, csn := true, sdo := s.cfg.rdFill,
        hist := s.hist ++ writeEvents (s.cfg.addrCtrlMeas &&& 0x7F#8) d ++
          readEvents (s.cfg.addrStatus ||| 0x80#8) [b] ++ readEvents (s.cfg.addrData ||| 0x80#8) D,
        dev := { s.dev with answers := rest }, draws := s.draws + 1 }

/-! ## Compensation -/

/-- CMPT with the reference body and wrap-around: TFINE and T_X100 are R196's formula in 32-bit arithmetic; CYC <- 2;
nothing else changes (R196, R191). The body and its widths are the spec's own choice: D7, D8. -/
def Obligations.CmptComputesTheReference : Prop :=
  ∀ s : State, s.cyc = 1#3 → s.calaValid = true → s.cfg.overflow = .wrap → s.cfg.compBody = .reference →
    let adc : BitVec 32 := s.adcT.setWidth 32
    let t1 : BitVec 32 := s.cal.t.t1.setWidth 32
    let t2 : BitVec 32 := s.cal.t.t2.signExtend 32
    let t3 : BitVec 32 := s.cal.t.t3.signExtend 32
    let a := adc.sshiftRight 3 - t1 <<< 1
    let var1 := (a * t2).sshiftRight 11
    let b := adc.sshiftRight 4 - t1
    let var2 := ((b * b).sshiftRight 12 * t3).sshiftRight 14
    let tfine := var1 + var2
    exec .cmpt s = .next { s with tfine := tfine, tX100 := (tfine * 5#32 + 128#32).sshiftRight 8, cyc := 2#3, busy := false }

/-- CMPP with the reference body and wrap-around: P_X100 is R203's steps S1 to S11 in 32-bit arithmetic, with the guard and
the two division branches; CYC <- 3; nothing else changes (R203, R205, R206). The body and its widths are the spec's own
choice: D7, D8. -/
def Obligations.CmppComputesTheReference : Prop :=
  ∀ s : State, s.cyc = 2#3 → s.calaValid = true → s.cfg.overflow = .wrap → s.cfg.compBody = .reference →
    let c := s.cal.p
    let adc : BitVec 32 := s.adcP.setWidth 32
    let v1 := s.tfine.sshiftRight 1 - 64000#32
    let q := v1.sshiftRight 2
    let s2 := (q * q).sshiftRight 11 * c.p6.signExtend 32
    let s3 := s2 + (v1 * c.p5.signExtend 32) <<< 1
    let s4 := s3.sshiftRight 2 + c.p4.signExtend 32 <<< 16
    let s5 := ((c.p3.signExtend 32 * (q * q).sshiftRight 13).sshiftRight 3 +
      (c.p2.signExtend 32 * v1).sshiftRight 1).sshiftRight 18
    let d := ((32768#32 + s5) * c.p1.setWidth 32).sshiftRight 15
    let s7 := ((1048576#32 - adc) - s4.sshiftRight 12) * 3125#32
    let p := if s7 < 0x80000000#32 then (s7 <<< 1) / d else (s7 / d) * 2#32
    let s9 := (c.p9.signExtend 32 * ((p >>> 3 * (p >>> 3)) >>> 13)).sshiftRight 12
    let s10 := (p >>> 2 * c.p8.signExtend 32).sshiftRight 13
    let s11 := p + (s9 + s10 + c.p7.signExtend 32).sshiftRight 4
    exec .cmpp s = .next { s with pX100 := if d = 0#32 then 0#32 else s11, cyc := 3#3, busy := false }

/-- CMPH with the reference body and wrap-around: the accumulator is R213's expression in 32-bit arithmetic, clamped to [0,
419430400] as a signed number and shifted right by 12; CYC <- 4; nothing else changes (R213, R217, R218). The body and its
widths are the spec's own choice: D7, D8. -/
def Obligations.CmphComputesTheReference : Prop :=
  ∀ s : State, s.cyc = 3#3 → s.calaValid = true → s.calbValid = true → s.cfg.overflow = .wrap →
    s.cfg.compBody = .reference →
    let c := s.cal.h
    let adc : BitVec 32 := s.adcH.setWidth 32
    let v := s.tfine - 76800#32
    let x1 := adc <<< 14 - c.h4.signExtend 32 <<< 20 - c.h5.signExtend 32 * v
    let x2 := (x1 + 16384#32).sshiftRight 15
    let y1 := (v * c.h6.signExtend 32).sshiftRight 10
    let y2 := (v * c.h3.setWidth 32).sshiftRight 11 + 32768#32
    let y3 := (y1 * y2).sshiftRight 10 + 2097152#32
    let y4 := (y3 * c.h2.signExtend 32 + 8192#32).sshiftRight 14
    let w := x2 * y4
    let z := w.sshiftRight 15
    let w2 := w - ((z * z).sshiftRight 7 * c.h1.setWidth 32).sshiftRight 4
    let k := if w2.toInt < 0 then 0#32 else if 419430400 < w2.toInt then 419430400#32 else w2
    exec .cmph s = .next { s with hX1024 := k >>> 12, cyc := 4#3, busy := false }

/-- CMPH's clamp on numbers, with the reference body and wrap-around: of the accumulator w, H_X1024 is 0 below 0, exactly
102400 = 419430400 >> 12 above 419430400, and w >> 12 else; no error bit is set (R217, R218). -/
def Obligations.HumidityClampSaturates : Prop :=
  ∀ s : State, s.cyc = 3#3 → s.calaValid = true → s.calbValid = true → s.cfg.overflow = .wrap →
    s.cfg.compBody = .reference → ∃ t, exec .cmph s = .next t ∧ t.err = s.err ∧
      (let w := (humAccumulator s.adcH s.tfine s.cal.h).val.toInt
       (t.hX1024.toNat : Int) = if w < 0 then 0 else if 419430400 < w then 102400 else w / 4096)

/-- Whatever the bodies, CMPT, CMPP and CMPH in their turn complete under wrap-around, T_X100 is asr(TFINE *s 5 +s 128, 8), and
H_X1024 is at most 102400; of bodies other than the reference, TFINE is the sum of the two terms, P_X100 is 0 at a zero
denominator term, else made of the quotient of S8a or S8b, and H_X1024 is the clamped accumulator shifted by 12 (R220
T-FINAL, P-GUARD, P-BRANCH, H-CLAMP; ORDER: CMPP and CMPH are given TFINE). The other bodies are the model's rendering of
D8: log 13. -/
def Obligations.AnyBodyKeepsItsProperties : Prop :=
  ∀ s : State, s.cfg.overflow = .wrap → s.calaValid = true → s.calbValid = true →
    (s.cyc = 1#3 → ∃ x y, exec .cmpt s = .next { s with tfine := x, tX100 := y, cyc := 2#3, busy := false } ∧
      y = (x * 5#32 + 128#32).sshiftRight 8 ∧
      (s.cfg.compBody = .other →
        x = (Config.otherVar1 s.adcT s.cal.t).val + (Config.otherVar2 s.adcT s.cal.t).val)) ∧
    (s.cyc = 2#3 → ∃ p, exec .cmpp s = .next { s with pX100 := p, cyc := 3#3, busy := false } ∧
      (s.cfg.compBody = .other →
        let d := (Config.otherDenominator s.adcP s.tfine s.cal.p).val
        let v := (Config.otherDividend s.adcP s.tfine s.cal.p).val
        let q := if v < 0x80000000#32 then (v <<< 1) / d else (v / d) * 2#32
        p = if d = 0#32 then 0#32 else (Config.otherAfterDivision q s.adcP s.tfine s.cal.p).val)) ∧
    (s.cyc = 3#3 → ∃ h, exec .cmph s = .next { s with hX1024 := h, cyc := 4#3, busy := false } ∧ h.toNat ≤ 102400 ∧
      (s.cfg.compBody = .other →
        let w := (Config.otherAccumulator s.adcH s.tfine s.cal.h).val.toInt
        (h.toNat : Int) = if w < 0 then 0 else if 419430400 < w then 102400 else w / 4096))

/-- A measurement command before initialization, and a compensation or output command whose stage or calibration is missing,
is refused with BAD_SEQ: no bus event, no register changed but ERR[3]; SCALE and ALT emit no bus event in any state (R171,
R192, R231, R255). The spec's own choice: D16. -/
def Obligations.OutOfOrderIsRefused : Prop :=
  (∀ (i : Instr) (s t : State), i ∈ [.scale, .alt] → exec i s = .next t → t.hist = s.hist) ∧
  (∀ (i : Instr) (s : State), i ∈ [.meas, .poll, .rdraw] → AtRest s → s.initDone = false →
    exec i s = .next { s with err := s.err ||| 0b01000#5, busy := false }) ∧
  ∀ s : State, AtRest s →
    (¬(s.cyc = 1#3 ∧ s.calaValid = true) → exec .cmpt s = .next { s with err := s.err ||| 0b01000#5, busy := false }) ∧
    (¬(s.cyc = 2#3 ∧ s.calaValid = true) → exec .cmpp s = .next { s with err := s.err ||| 0b01000#5, busy := false }) ∧
    (¬(s.cyc = 3#3 ∧ s.calaValid = true ∧ s.calbValid = true) →
      exec .cmph s = .next { s with err := s.err ||| 0b01000#5, busy := false }) ∧
    (s.cyc ≠ 4#3 → exec .scale s = .next { s with err := s.err ||| 0b01000#5, busy := false }) ∧
    (s.cyc ≠ 5#3 → exec .alt s = .next { s with err := s.err ||| 0b01000#5, busy := false })

/-- Under OVERFLOW_POLICY = fault, with the reference bodies: a CMPT, CMPP or CMPH in its turn, one of whose signed operations
leaves the s32 range, raises ARITH: its output registers and CYC keep their values and only ERR[4] changes; where none
does, it completes with the results it has under wrap-around. The same inside MEAS: its step M3, M4 or M5 aborts with ARITH,
UPC <- 0, and the Measurement record and the rest keep their values, or goes on as under wrap-around (R257, R13, R172, R191,
R256). The policy and the bodies are the spec's own choice: D7, D8; that on the guarded path of CMPP the operations behind
the guard do not count: log 13; one step of the macro is one step of the machine: log 2. -/
def Obligations.OverflowRaisesArith : Prop :=
  (∀ s : State, AtRest s → s.cfg.overflow = .fault → s.cfg.compBody = .reference → s.calaValid = true →
    let wrapping : State := { s with cfg := { s.cfg with overflow := .wrap } }
    (s.cyc = 1#3 → if cmptOverflows s.adcT s.cal.t = true
      then exec .cmpt s = .next { s with err := s.err ||| 0b10000#5, busy := false }
      else ∃ t, exec .cmpt wrapping = .next t ∧ t.cyc = 2#3 ∧ exec .cmpt s = .next { t with cfg := s.cfg }) ∧
    (s.cyc = 2#3 → if cmppOverflows s.adcP s.tfine s.cal.p = true
      then exec .cmpp s = .next { s with err := s.err ||| 0b10000#5, busy := false }
      else ∃ t, exec .cmpp wrapping = .next t ∧ t.cyc = 3#3 ∧ exec .cmpp s = .next { t with cfg := s.cfg }) ∧
    (s.cyc = 3#3 → s.calbValid = true → if cmphOverflows s.adcH s.tfine s.cal.h = true
      then exec .cmph s = .next { s with err := s.err ||| 0b10000#5, busy := false }
      else ∃ t, exec .cmph wrapping = .next t ∧ t.cyc = 4#3 ∧ exec .cmph s = .next { t with cfg := s.cfg })) ∧
  ∀ s : State, NoRstNext s → s.busy = true → s.polling = false → s.cfg.overflow = .fault → s.cfg.compBody = .reference →
    s.calaValid = true →
    let wrapping : State := { s with cfg := { s.cfg with overflow := .wrap } }
    let aborted : State := { s with err := s.err ||| 0b10000#5, upc := 0#5, busy := false }
    (s.upc = 0b10011#5 → s.cyc = 1#3 → if cmptOverflows s.adcT s.cal.t = true then step s = .next aborted
      else ∃ t, step wrapping = .next t ∧ t.cyc = 2#3 ∧ t.upc = 0b10100#5 ∧ step s = .next { t with cfg := s.cfg }) ∧
    (s.upc = 0b10100#5 → s.cyc = 2#3 → if cmppOverflows s.adcP s.tfine s.cal.p = true then step s = .next aborted
      else ∃ t, step wrapping = .next t ∧ t.cyc = 3#3 ∧ t.upc = 0b10101#5 ∧ step s = .next { t with cfg := s.cfg }) ∧
    (s.upc = 0b10101#5 → s.cyc = 3#3 → s.calbValid = true → if cmphOverflows s.adcH s.tfine s.cal.h = true
      then step s = .next aborted
      else ∃ t, step wrapping = .next t ∧ t.cyc = 4#3 ∧ t.upc = 0b10110#5 ∧ step s = .next { t with cfg := s.cfg })

/-! ## Output -/

/-- SCALE, command word 0x500000, at stage 4: the record's first three fields are the rounded quotients of the signed
temperature by 100, the unsigned pressure by 100 and the unsigned humidity by 1024; MEAS_VALID <- 0, CYC <- 5, nothing else
changes. At another stage it is refused with BAD_SEQ (R232). The signedness is the spec's own choice: D31; FLT and rnd are
open: log 9. -/
def Obligations.ScaleDividesTheResults : Prop :=
  (∀ len, decode len (.cmd 0x500000#24) = .ok .scale) ∧
  (∀ s : State, AtRest s → s.cyc ≠ 4#3 → exec .scale s = .next { s with err := s.err ||| 0b01000#5, busy := false }) ∧
  ∀ s : State, s.cyc = 4#3 →
    exec .scale s = .next { s with mT := .real (rnd ((s.tX100.toInt : Rat) / 100)),
                                   mP := .real (rnd ((s.pX100.toNat : Rat) / 100)),
                                   mH := .real (rnd ((s.hX1024.toNat : Rat) / 1024)),
                                   measValid := false, cyc := 5#3, busy := false }

/-- ALT, command word 0x510000, at stage 5 with a non-zero pressure: M_ALT is the rounded barometric formula of M_T and M_P;
MEAS_VALID <- 1, CYC <- 6, nothing else changes. At another stage it is refused with BAD_SEQ (R236). FLT, rnd and the power
function are open, and the counter draws is the model's own: log 9. -/
def Obligations.AltComputesTheAltitude : Prop :=
  (∀ len, decode len (.cmd 0x510000#24) = .ok .alt) ∧
  (∀ s : State, AtRest s → s.cyc ≠ 5#3 → exec .alt s = .next { s with err := s.err ||| 0b01000#5, busy := false }) ∧
  ∀ (s : State) (t p : Rat), s.cyc = 5#3 → s.mT = .real t → s.mP = .real p → p ≠ 0 →
    let x := pow (p / (101325 / 100)) (1 / (5255 / 1000))
    exec .alt s = .next { s with mAlt := .real (rnd ((t + 27315 / 100) * (1 - x) / (x * (65 / 10000)))),
                                 draws := s.draws + 1, measValid := true, cyc := 6#3, busy := false }

/-- At the reference pressure the altitude is exactly 0 for every temperature (R238 b, R239); at pressure zero ALT completes
and raises nothing: M_ALT takes some value of FLT, MEAS_VALID <- 1, CYC <- 6 (R237). The latter is the spec's own choice:
D22; what is assumed of rnd and the power function, and where the free value comes from: log 9. -/
def Obligations.AltAtZeroAndSeaLevelPressure : Prop :=
  (∀ (s : State) (t : Rat), s.cyc = 5#3 → s.mT = .real t → s.mP = .real (101325 / 100) →
    exec .alt s = .next { s with mAlt := .real 0, draws := s.draws + 1, measValid := true, cyc := 6#3, busy := false }) ∧
  ∀ s : State, s.cyc = 5#3 → s.mP = .real 0 →
    ∃ v, exec .alt s = .next { s with mAlt := v, draws := s.draws + 1, measValid := true, cyc := 6#3, busy := false }

/-! ## The whole machine -/

/-- Every step keeps the bus between frames: CSN = 1, SCK idle, and HIST a sequence of complete frames, each select edge
followed by its delay and each write by its own (R130, R286 d, e). -/
def Obligations.EveryStepKeepsTheBus : Prop :=
  ∀ s t : State, BusOk s → step s = .next t → BusOk t

/-- Every step keeps the control state: BUSY = 0 with UPC = 0, or a step of INIT, of MEAS or of a poll loop, CYC in pace,
and CYC never 7 (R37, R40, R172). polling is the model's own field: log 2. -/
def Obligations.EveryStepKeepsTheControl : Prop :=
  ∀ s t : State, ControlOk s → step s = .next t → ControlOk t

/-- Every step keeps the data: RXBUF as long as RXBUF_LEN, H4 and H5 below 4096, T_X100 the final step of TFINE, H_X1024 at
most 102400, the record's fields numbers, the device memory canonical and no sample left over from a frame (R20, R25, R26,
R78, R220, R233). rxHigh is the model's own field: log 3; the samples: log 5; the device memory: log 6. -/
def Obligations.EveryStepKeepsTheData : Prop :=
  ∀ s t : State, DataOk s → step s = .next t → DataOk t

/-- The reset state meets the three invariants. -/
def Obligations.ResetMeetsTheInvariants : Prop :=
  BusOk State.reset ∧ ControlOk State.reset ∧ DataOk State.reset

/-- The block always has a next step: no state with a legal control state faults or is refused, whatever the device answers
(R73, R175). -/
def Obligations.TheBlockAlwaysHasAStep : Prop :=
  ∀ s : State, ControlOk s → ∃ t, step s = .next t

/-- ERR is sticky: no step but RST clears a bit of it (R39). The spec's own choice: D18. -/
def Obligations.ErrorsAreSticky : Prop :=
  ∀ s t : State, NotRst s → step s = .next t → t.err &&& s.err = s.err

/-- In the baseline no step sets ERR bits 0, 1 or 4 (R39, R250). -/
def Obligations.BaselineRaisesOnlyRefusals : Prop :=
  ∀ s t : State, Baseline s.cfg → NotRst s → step s = .next t →
    t.err.getLsbD 0 = s.err.getLsbD 0 ∧ t.err.getLsbD 1 = s.err.getLsbD 1 ∧ t.err.getLsbD 4 = s.err.getLsbD 4

/-- The parameters are fixed: no step writes one (R35, R49). That they stand in State is the model's choice: log 1. -/
def Obligations.ParametersAreFixed : Prop :=
  ∀ s t : State, step s = .next t → t.cfg = s.cfg

/-- The calibration file is loaded once and immutable thereafter: once a block is loaded, no step but RST changes its
coefficients, nor H1 once the block that H1_SRC names is loaded (R21, R150, R152). -/
def Obligations.CalibrationIsImmutable : Prop :=
  ∀ s t : State, NotRst s → step s = .next t →
    (s.calaValid = true → t.calaValid = true ∧ t.cal.t = s.cal.t ∧ t.cal.p = s.cal.p) ∧
    (s.calbValid = true → t.calbValid = true ∧ t.cal.h.h2 = s.cal.h.h2 ∧ t.cal.h.h3 = s.cal.h.h3 ∧
      t.cal.h.h4 = s.cal.h.h4 ∧ t.cal.h.h5 = s.cal.h.h5 ∧ t.cal.h.h6 = s.cal.h.h6) ∧
    (h1Valid s = true → h1Valid t = true ∧ t.cal.h.h1 = s.cal.h.h1)

/-- MODE is written by RST and by the acceptance of an INIT only, by an idle block that is not initialized; a BWR to the
device's control register does not change it (R34, R41, R161, R291). -/
def Obligations.ModeIsWrittenByInitOnly : Prop :=
  ∀ s t : State, NotRst s → step s = .next t → t.mode ≠ s.mode →
    s.busy = false ∧ s.initDone = false ∧
      ∃ r h m, s.host = .present r :: h ∧ decode (rxbufLen s.cfg) r = .ok (.init m) ∧ t.mode = m

/-- TFINE is written by CMPT only: a step that changes it accepts a word that decodes to CMPT, or is step M3 of MEAS, and it
goes from CYC = 1 to CYC = 2, so that both CMPP and CMPH of a cycle read the value CMPT wrote (R24, R172, R181). The check
by CYC is the spec's own choice: D16. -/
def Obligations.TfineIsWrittenByCmptOnly : Prop :=
  ∀ s t : State, NotRst s → step s = .next t → t.tfine ≠ s.tfine →
    s.cyc = 1#3 ∧ t.cyc = 2#3 ∧
    ((s.busy = false ∧ ∃ r h, s.host = .present r :: h ∧ decode (rxbufLen s.cfg) r = .ok .cmpt) ∨
      (s.busy = true ∧ s.upc = 0b10011#5))

/-- The event history only grows: no step but RST drops or reorders an event (R81). -/
def Obligations.HistoryOnlyGrows : Prop :=
  ∀ s t : State, NotRst s → step s = .next t → ∃ es, t.hist = s.hist ++ es

/-- MEAS and its expansion issued command by command end in the same state: outside Forced mode RDRAW, CMPT, CMPP, CMPH,
SCALE, ALT; in Forced mode WRCTL and POLL before them, the poll loop reading k busy status bytes and then a clear one, with
no POLL_LIMIT (R109, R172). The counts of steps follow log 2; answers known beforehand: log 4. -/
def Obligations.MeasEqualsItsExpansion : Prop :=
  (∀ s : State, AtRest s → NoRstNext s → s.initDone = true → s.mode ≠ s.cfg.modeForced → s.cfg.overflow = .wrap →
    s.calaValid = true → s.calbValid = true →
    ∃ m a b c d e z, exec .meas s = .next m ∧ Sys2Proof.core.run 7 m = .next z ∧ exec .rdraw s = .next a ∧
      exec .cmpt a = .next b ∧ exec .cmpp b = .next c ∧ exec .cmph c = .next d ∧ exec .scale d = .next e ∧
      exec .alt e = .next z) ∧
  ∀ (s : State) (bs : List Byte) (b : Byte) (D rest : List Byte), AtRest s → NoRstNext s → s.initDone = true →
    s.mode = s.cfg.modeForced → s.cfg.pollLimit = none → s.cfg.overflow = .wrap → s.calaValid = true →
    s.calbValid = true → (∀ x ∈ bs, x.getLsbD 3 = true) → b.getLsbD 3 = false → D.length = 8 →
    Answers s (bs ++ b :: D) rest →
    ∃ m w p q a x c d e z, exec .meas s = .next m ∧ Sys2Proof.core.run (8 + bs.length) m = .next z ∧
      exec .wrctl s = .next w ∧ exec .poll w = .next p ∧ Sys2Proof.core.run bs.length p = .next q ∧
      exec .rdraw q = .next a ∧ exec .cmpt a = .next x ∧ exec .cmpp x = .next c ∧ exec .cmph c = .next d ∧
      exec .scale d = .next e ∧ exec .alt e = .next z

/-- INIT m and its expansion issued command by command, MODE being m, end in the same state but for INIT_DONE, without
ID_STRICT or with the right identity (R109). The counts of steps follow log 2. -/
def Obligations.InitEqualsItsExpansion : Prop :=
  ∀ (m : BitVec 2) (s : State), m ≠ 0b10#2 → AtRest s → NoRstNext s → s.initDone = false → s.calaValid = false →
    s.calbValid = false → (s.cfg.idStrict = false ∨ ∃ rest, Answers s [0x60#8] rest) →
    ∃ n a b c d e z, exec (.init m) s = .next n ∧ Sys2Proof.core.run 6 n = .next { z with initDone := true } ∧
      exec .rdid { s with mode := m } = .next a ∧ exec .ldcala a = .next b ∧ exec .ldcalb b = .next c ∧
      exec .wros c = .next d ∧ exec .wrhum d = .next e ∧ exec .wrctl e = .next z
end

