-- ==== Sys2Proof/Laws/Arith.lean ====
section
/-! SUPPORT. The values of the arithmetic primitives as 32-bit operations (spec 43_compensation.md R191). -/

namespace Sys2Proof.Machine

/-- `s32` of the number of a 32-bit value is that value. -/
@[simp] theorem s32_toInt (v : S32) : s32 v.toInt = v := BitVec.ofInt_toInt

@[simp] theorem exact_val {w : Nat} (v : BitVec w) : (exact v).val = v := rfl

@[simp] theorem narrow_val (x : Int) (o : Bool) : (narrow x o).val = s32 x := rfl

@[simp] theorem addS_val (a b : Checked S32) : (addS a b).val = a.val + b.val := by
  simp [addS, s32, BitVec.ofInt_add]

@[simp] theorem subS_val (a b : Checked S32) : (subS a b).val = a.val - b.val := by
  apply BitVec.eq_of_toInt_eq
  simp [subS, s32, BitVec.toInt_sub]

@[simp] theorem mulS_val (a b : Checked S32) : (mulS a b).val = a.val * b.val := by
  simp [mulS, s32, BitVec.ofInt_mul]

@[simp] theorem shlS_val (a : Checked S32) (n : Nat) : (shlS a n).val = a.val <<< n := by
  apply BitVec.eq_of_toNat_eq
  have h : (2 : Int) ^ n = ((2 ^ n : Nat) : Int) := by simp
  simp only [shlS, narrow_val, s32, h, BitVec.ofInt_mul, BitVec.ofInt_toInt, BitVec.ofInt_natCast, BitVec.toNat_mul,
    BitVec.toNat_ofNat, BitVec.toNat_shiftLeft, Nat.shiftLeft_eq, Nat.mul_mod, Nat.mod_mod]

@[simp] theorem asrS_val (a : Checked S32) (n : Nat) : (asrS a n).val = a.val.sshiftRight n := by
  apply BitVec.eq_of_toInt_eq
  have h : (a.val.sshiftRight n).toInt = a.val.toInt / 2 ^ n := by
    rw [BitVec.toInt_sshiftRight, Int.shiftRight_eq_div_pow]; norm_cast
  rw [h]
  show (s32 (a.val.toInt / 2 ^ n)).toInt = _
  rw [← h, s32_toInt]

@[simp] theorem addU_val (a b : Checked U32) : (addU a b).val = a.val + b.val := rfl

@[simp] theorem subU_val (a b : Checked U32) : (subU a b).val = a.val - b.val := rfl

@[simp] theorem mulU_val (a b : Checked U32) : (mulU a b).val = a.val * b.val := rfl

@[simp] theorem shlU_val (a : Checked U32) (n : Nat) : (shlU a n).val = a.val <<< n := rfl

@[simp] theorem lsrU_val (a : Checked U32) (n : Nat) : (lsrU a n).val = a.val >>> n := rfl

@[simp] theorem divU_val (a b : Checked U32) : (divU a b).val = a.val / b.val := rfl

@[simp] theorem sext_val {w : Nat} (v : BitVec w) : (sext v).val = v.signExtend 32 := rfl

@[simp] theorem zext_val {w : Nat} (v : BitVec w) : (zext v).val = v.setWidth 32 := rfl

@[simp] theorem const_val (x : Int) : (const x).val = s32 x := rfl

/-! ## Overflow, in terms of the 32-bit overflow predicates of the library (R13, R191) -/

/-- Outside the s32 range, in the form of the library's predicates. -/
theorem not_inS32 (x : Int) : (!inS32 x) = (decide (x ≥ 2 ^ (32 - 1)) || decide (x < -2 ^ (32 - 1))) := by
  rw [Bool.eq_iff_iff]
  simp [inS32]
  omega

@[simp] theorem addS_ovf (a b : Checked S32) :
    (addS a b).ovf = (a.ovf || b.ovf || BitVec.saddOverflow a.val b.val) := by
  simp only [addS, narrow, not_inS32, BitVec.saddOverflow]

@[simp] theorem subS_ovf (a b : Checked S32) :
    (subS a b).ovf = (a.ovf || b.ovf || BitVec.ssubOverflow a.val b.val) := by
  simp only [subS, narrow, not_inS32, BitVec.ssubOverflow]

@[simp] theorem mulS_ovf (a b : Checked S32) :
    (mulS a b).ovf = (a.ovf || b.ovf || BitVec.smulOverflow a.val b.val) := by
  simp only [mulS, narrow, not_inS32, BitVec.smulOverflow]

/-- A left shift overflows as the product by the power of two does. -/
theorem shlS_ovf (a : Checked S32) (n : Nat) (hn : n < 31) :
    (shlS a n).ovf = (a.ovf || BitVec.smulOverflow a.val (BitVec.ofNat 32 (2 ^ n))) := by
  have h : (BitVec.ofNat 32 (2 ^ n)).toInt = 2 ^ n := by interval_cases n <;> rfl
  simp only [shlS, narrow, not_inS32, BitVec.smulOverflow, h]

@[simp] theorem asrS_ovf (a : Checked S32) (n : Nat) : (asrS a n).ovf = a.ovf := rfl

@[simp] theorem subU_ovf (a b : Checked U32) : (subU a b).ovf = (a.ovf || b.ovf) := rfl

@[simp] theorem mulU_ovf (a b : Checked U32) : (mulU a b).ovf = (a.ovf || b.ovf) := rfl

@[simp] theorem divU_ovf (a b : Checked U32) : (divU a b).ovf = (a.ovf || b.ovf) := rfl

@[simp] theorem shlU_ovf (a : Checked U32) (n : Nat) : (shlU a n).ovf = a.ovf := rfl

@[simp] theorem lsrU_ovf (a : Checked U32) (n : Nat) : (lsrU a n).ovf = a.ovf := rfl

@[simp] theorem exact_ovf {w : Nat} (v : BitVec w) : (exact v).ovf = false := rfl

@[simp] theorem sext_ovf {w : Nat} (v : BitVec w) : (sext v).ovf = false := rfl

@[simp] theorem zext_ovf {w : Nat} (v : BitVec w) : (zext v).ovf = false := rfl

@[simp] theorem const_ovf (x : Int) : (const x).ovf = false := rfl

end Sys2Proof.Machine
end

