-- ==== Sys2Proof/Laws/Operands.lean ====
section
/-! SUPPORT. The operand forms as numbers: what each packing and unpacking computes. -/

namespace Sys2Proof.Machine

/-- A shifted number joined with one below the shift is their sum. -/
theorem or_shift {x y k : Nat} (h : y < 2 ^ k) : x <<< k ||| y = x * 2 ^ k + y := by
  rw [← Nat.shiftLeft_add_eq_or_of_lt h, Nat.shiftLeft_eq]

theorem setWidth_shift_toNat (b : Byte) {w k : Nat} (h : 8 + k ≤ w) :
    (b.setWidth w <<< k).toNat = b.toNat <<< k := by
  have h1 : b.toNat < 2 ^ w := lt_of_lt_of_le b.isLt (Nat.pow_le_pow_right (by decide) (by omega))
  have h2 : b.toNat <<< k < 2 ^ w := by
    rw [Nat.shiftLeft_eq]
    calc b.toNat * 2 ^ k < 2 ^ 8 * 2 ^ k := Nat.mul_lt_mul_of_pos_right b.isLt (by positivity)
      _ = 2 ^ (8 + k) := (pow_add 2 8 k).symm
      _ ≤ 2 ^ w := Nat.pow_le_pow_right (by decide) h
  rw [BitVec.toNat_shiftLeft, BitVec.toNat_setWidth, Nat.mod_eq_of_lt h1, Nat.mod_eq_of_lt h2]

theorem lowNibble_toNat (b : Byte) : (b &&& 0xF#8).toNat = b.toNat % 16 := by revert b; decide

theorem highNibble_toNat (b : Byte) : (b >>> 4).toNat = b.toNat / 16 := by revert b; decide

/-- H4 is byte0 * 16 + (byte1 mod 16) (R148). -/
theorem unpackH4_toNat (b0 b1 : Byte) : (unpackH4 b0 b1).toNat = b0.toNat * 16 + b1.toNat % 16 := by
  have h : ((b1 &&& 0xF#8).setWidth 16).toNat = b1.toNat % 16 := by
    rw [BitVec.toNat_setWidth, lowNibble_toNat]; omega
  show ((b0.setWidth 16 <<< 4) ||| (b1 &&& 0xF#8).setWidth 16).toNat = _
  rw [BitVec.toNat_or, setWidth_shift_toNat b0 (by decide), h, or_shift (by omega)]
  omega

/-- H5 is byte1 / 16 + byte2 * 16 (R149). -/
theorem unpackH5_toNat (b1 b2 : Byte) : (unpackH5 b1 b2).toNat = b1.toNat / 16 + b2.toNat * 16 := by
  have h : ((b1 >>> 4).setWidth 16).toNat = b1.toNat / 16 := by
    rw [BitVec.toNat_setWidth, highNibble_toNat]; have := b1.isLt; omega
  have hb := b1.isLt
  rw [unpackH5, BitVec.toNat_or, setWidth_shift_toNat b2 (by decide), h, Nat.or_comm, or_shift (by omega)]
  omega

/-- A 20-bit raw value as a number (R177). -/
theorem unpackRaw20_toNat (b0 b1 b2 : Byte) :
    (unpackRaw20 b0 b1 b2).toNat = b0.toNat * 4096 + b1.toNat * 16 + b2.toNat / 16 := by
  have h : ((b2 >>> 4).setWidth 20).toNat = b2.toNat / 16 := by
    rw [BitVec.toNat_setWidth, highNibble_toNat]; have := b2.isLt; omega
  have hb := b2.isLt
  have h1 := b1.isLt
  rw [unpackRaw20, BitVec.toNat_or, BitVec.toNat_or, setWidth_shift_toNat b0 (by decide),
    setWidth_shift_toNat b1 (by decide), h, or_shift (x := b0.toNat)
      (by rw [Nat.shiftLeft_eq]; omega), Nat.shiftLeft_eq,
    show b0.toNat * 2 ^ 12 + b1.toNat * 2 ^ 4 = (b0.toNat * 256 + b1.toNat) <<< 4 by rw [Nat.shiftLeft_eq]; omega,
    or_shift (by omega)]
  omega

/-- A 16-bit raw value as a number (R177). -/
theorem unpackRaw16_toNat (b0 b1 : Byte) : (unpackRaw16 b0 b1).toNat = b0.toNat * 256 + b1.toNat := by
  rw [unpackRaw16, BitVec.toNat_append, or_shift b1.isLt]
  omega

/-- `pack_ctrl` as a number (R96). -/
theorem packCtrl_toNat (t p : BitVec 3) (m : BitVec 2) :
    (packCtrl t p m).toNat = t.toNat * 32 + p.toNat * 4 + m.toNat := by
  revert t p m; decide

/-- `pack_hum` as a number (R98). -/
theorem packHum_toNat (h : BitVec 3) : (packHum h).toNat = h.toNat := by revert h; decide

end Sys2Proof.Machine
end

