-- ==== Sys2Proof/Laws/State.lean ====
section
/-! SUPPORT. What each shared operation leaves in each field of State: one lemma per field, so that no proof unfolds a record
update. -/

namespace Sys2Proof.Machine

/-! ## emit -/

@[simp] theorem emit_cfg (e : BusEvent) (s : State) : (emit e s).cfg = s.cfg := rfl
@[simp] theorem emit_cal (e : BusEvent) (s : State) : (emit e s).cal = s.cal := rfl
@[simp] theorem emit_calaValid (e : BusEvent) (s : State) : (emit e s).calaValid = s.calaValid := rfl
@[simp] theorem emit_calbValid (e : BusEvent) (s : State) : (emit e s).calbValid = s.calbValid := rfl
@[simp] theorem emit_adcP (e : BusEvent) (s : State) : (emit e s).adcP = s.adcP := rfl
@[simp] theorem emit_adcT (e : BusEvent) (s : State) : (emit e s).adcT = s.adcT := rfl
@[simp] theorem emit_adcH (e : BusEvent) (s : State) : (emit e s).adcH = s.adcH := rfl
@[simp] theorem emit_tfine (e : BusEvent) (s : State) : (emit e s).tfine = s.tfine := rfl
@[simp] theorem emit_tX100 (e : BusEvent) (s : State) : (emit e s).tX100 = s.tX100 := rfl
@[simp] theorem emit_pX100 (e : BusEvent) (s : State) : (emit e s).pX100 = s.pX100 := rfl
@[simp] theorem emit_hX1024 (e : BusEvent) (s : State) : (emit e s).hX1024 = s.hX1024 := rfl
@[simp] theorem emit_rxbuf (e : BusEvent) (s : State) : (emit e s).rxbuf = s.rxbuf := rfl
@[simp] theorem emit_rxHigh (e : BusEvent) (s : State) : (emit e s).rxHigh = s.rxHigh := rfl
@[simp] theorem emit_mT (e : BusEvent) (s : State) : (emit e s).mT = s.mT := rfl
@[simp] theorem emit_mP (e : BusEvent) (s : State) : (emit e s).mP = s.mP := rfl
@[simp] theorem emit_mH (e : BusEvent) (s : State) : (emit e s).mH = s.mH := rfl
@[simp] theorem emit_mAlt (e : BusEvent) (s : State) : (emit e s).mAlt = s.mAlt := rfl
@[simp] theorem emit_measValid (e : BusEvent) (s : State) : (emit e s).measValid = s.measValid := rfl
@[simp] theorem emit_chipId (e : BusEvent) (s : State) : (emit e s).chipId = s.chipId := rfl
@[simp] theorem emit_idSeen (e : BusEvent) (s : State) : (emit e s).idSeen = s.idSeen := rfl
@[simp] theorem emit_mode (e : BusEvent) (s : State) : (emit e s).mode = s.mode := rfl
@[simp] theorem emit_initDone (e : BusEvent) (s : State) : (emit e s).initDone = s.initDone := rfl
@[simp] theorem emit_cyc (e : BusEvent) (s : State) : (emit e s).cyc = s.cyc := rfl
@[simp] theorem emit_err (e : BusEvent) (s : State) : (emit e s).err = s.err := rfl
@[simp] theorem emit_upc (e : BusEvent) (s : State) : (emit e s).upc = s.upc := rfl
@[simp] theorem emit_busy (e : BusEvent) (s : State) : (emit e s).busy = s.busy := rfl
@[simp] theorem emit_pollCnt (e : BusEvent) (s : State) : (emit e s).pollCnt = s.pollCnt := rfl
@[simp] theorem emit_polling (e : BusEvent) (s : State) : (emit e s).polling = s.polling := rfl
@[simp] theorem emit_csn (e : BusEvent) (s : State) : (emit e s).csn = s.csn := rfl
@[simp] theorem emit_sck (e : BusEvent) (s : State) : (emit e s).sck = s.sck := rfl
@[simp] theorem emit_sdo (e : BusEvent) (s : State) : (emit e s).sdo = s.sdo := rfl
@[simp] theorem emit_host (e : BusEvent) (s : State) : (emit e s).host = s.host := rfl
@[simp] theorem emit_draws (e : BusEvent) (s : State) : (emit e s).draws = s.draws := rfl

@[simp] theorem emit_hist (e : BusEvent) (s : State) : (emit e s).hist = s.hist ++ [e] := rfl
@[simp] theorem emit_dev (e : BusEvent) (s : State) : (emit e s).dev = devObserve s.cfg e s.dev := rfl

/-! ## select, deselect, sendByte -/

@[simp] theorem select_cfg (s : State) : (select s).cfg = s.cfg := rfl
@[simp] theorem select_cal (s : State) : (select s).cal = s.cal := rfl
@[simp] theorem select_calaValid (s : State) : (select s).calaValid = s.calaValid := rfl
@[simp] theorem select_calbValid (s : State) : (select s).calbValid = s.calbValid := rfl
@[simp] theorem select_adcP (s : State) : (select s).adcP = s.adcP := rfl
@[simp] theorem select_adcT (s : State) : (select s).adcT = s.adcT := rfl
@[simp] theorem select_adcH (s : State) : (select s).adcH = s.adcH := rfl
@[simp] theorem select_tfine (s : State) : (select s).tfine = s.tfine := rfl
@[simp] theorem select_tX100 (s : State) : (select s).tX100 = s.tX100 := rfl
@[simp] theorem select_pX100 (s : State) : (select s).pX100 = s.pX100 := rfl
@[simp] theorem select_hX1024 (s : State) : (select s).hX1024 = s.hX1024 := rfl
@[simp] theorem select_rxbuf (s : State) : (select s).rxbuf = s.rxbuf := rfl
@[simp] theorem select_rxHigh (s : State) : (select s).rxHigh = s.rxHigh := rfl
@[simp] theorem select_mT (s : State) : (select s).mT = s.mT := rfl
@[simp] theorem select_mP (s : State) : (select s).mP = s.mP := rfl
@[simp] theorem select_mH (s : State) : (select s).mH = s.mH := rfl
@[simp] theorem select_mAlt (s : State) : (select s).mAlt = s.mAlt := rfl
@[simp] theorem select_measValid (s : State) : (select s).measValid = s.measValid := rfl
@[simp] theorem select_chipId (s : State) : (select s).chipId = s.chipId := rfl
@[simp] theorem select_idSeen (s : State) : (select s).idSeen = s.idSeen := rfl
@[simp] theorem select_mode (s : State) : (select s).mode = s.mode := rfl
@[simp] theorem select_initDone (s : State) : (select s).initDone = s.initDone := rfl
@[simp] theorem select_cyc (s : State) : (select s).cyc = s.cyc := rfl
@[simp] theorem select_err (s : State) : (select s).err = s.err := rfl
@[simp] theorem select_upc (s : State) : (select s).upc = s.upc := rfl
@[simp] theorem select_busy (s : State) : (select s).busy = s.busy := rfl
@[simp] theorem select_pollCnt (s : State) : (select s).pollCnt = s.pollCnt := rfl
@[simp] theorem select_polling (s : State) : (select s).polling = s.polling := rfl
@[simp] theorem select_sck (s : State) : (select s).sck = s.sck := rfl
@[simp] theorem select_sdo (s : State) : (select s).sdo = s.sdo := rfl
@[simp] theorem select_host (s : State) : (select s).host = s.host := rfl
@[simp] theorem select_draws (s : State) : (select s).draws = s.draws := rfl

@[simp] theorem select_csn (s : State) : (select s).csn = false := rfl
@[simp] theorem select_hist (s : State) : (select s).hist = s.hist ++ [.sel, .dly .edge] := by simp [select]

@[simp] theorem deselect_cfg (s : State) : (deselect s).cfg = s.cfg := rfl
@[simp] theorem deselect_cal (s : State) : (deselect s).cal = s.cal := rfl
@[simp] theorem deselect_calaValid (s : State) : (deselect s).calaValid = s.calaValid := rfl
@[simp] theorem deselect_calbValid (s : State) : (deselect s).calbValid = s.calbValid := rfl
@[simp] theorem deselect_adcP (s : State) : (deselect s).adcP = s.adcP := rfl
@[simp] theorem deselect_adcT (s : State) : (deselect s).adcT = s.adcT := rfl
@[simp] theorem deselect_adcH (s : State) : (deselect s).adcH = s.adcH := rfl
@[simp] theorem deselect_tfine (s : State) : (deselect s).tfine = s.tfine := rfl
@[simp] theorem deselect_tX100 (s : State) : (deselect s).tX100 = s.tX100 := rfl
@[simp] theorem deselect_pX100 (s : State) : (deselect s).pX100 = s.pX100 := rfl
@[simp] theorem deselect_hX1024 (s : State) : (deselect s).hX1024 = s.hX1024 := rfl
@[simp] theorem deselect_rxbuf (s : State) : (deselect s).rxbuf = s.rxbuf := rfl
@[simp] theorem deselect_rxHigh (s : State) : (deselect s).rxHigh = s.rxHigh := rfl
@[simp] theorem deselect_mT (s : State) : (deselect s).mT = s.mT := rfl
@[simp] theorem deselect_mP (s : State) : (deselect s).mP = s.mP := rfl
@[simp] theorem deselect_mH (s : State) : (deselect s).mH = s.mH := rfl
@[simp] theorem deselect_mAlt (s : State) : (deselect s).mAlt = s.mAlt := rfl
@[simp] theorem deselect_measValid (s : State) : (deselect s).measValid = s.measValid := rfl
@[simp] theorem deselect_chipId (s : State) : (deselect s).chipId = s.chipId := rfl
@[simp] theorem deselect_idSeen (s : State) : (deselect s).idSeen = s.idSeen := rfl
@[simp] theorem deselect_mode (s : State) : (deselect s).mode = s.mode := rfl
@[simp] theorem deselect_initDone (s : State) : (deselect s).initDone = s.initDone := rfl
@[simp] theorem deselect_cyc (s : State) : (deselect s).cyc = s.cyc := rfl
@[simp] theorem deselect_err (s : State) : (deselect s).err = s.err := rfl
@[simp] theorem deselect_upc (s : State) : (deselect s).upc = s.upc := rfl
@[simp] theorem deselect_busy (s : State) : (deselect s).busy = s.busy := rfl
@[simp] theorem deselect_pollCnt (s : State) : (deselect s).pollCnt = s.pollCnt := rfl
@[simp] theorem deselect_polling (s : State) : (deselect s).polling = s.polling := rfl
@[simp] theorem deselect_sck (s : State) : (deselect s).sck = s.sck := rfl
@[simp] theorem deselect_sdo (s : State) : (deselect s).sdo = s.sdo := rfl
@[simp] theorem deselect_host (s : State) : (deselect s).host = s.host := rfl
@[simp] theorem deselect_draws (s : State) : (deselect s).draws = s.draws := rfl

@[simp] theorem deselect_csn (s : State) : (deselect s).csn = true := rfl
@[simp] theorem deselect_hist (s : State) : (deselect s).hist = s.hist ++ [.desel, .dly .edge] := by simp [deselect]

@[simp] theorem sendByte_cfg (b : Byte) (s : State) : (sendByte b s).cfg = s.cfg := rfl
@[simp] theorem sendByte_cal (b : Byte) (s : State) : (sendByte b s).cal = s.cal := rfl
@[simp] theorem sendByte_calaValid (b : Byte) (s : State) : (sendByte b s).calaValid = s.calaValid := rfl
@[simp] theorem sendByte_calbValid (b : Byte) (s : State) : (sendByte b s).calbValid = s.calbValid := rfl
@[simp] theorem sendByte_adcP (b : Byte) (s : State) : (sendByte b s).adcP = s.adcP := rfl
@[simp] theorem sendByte_adcT (b : Byte) (s : State) : (sendByte b s).adcT = s.adcT := rfl
@[simp] theorem sendByte_adcH (b : Byte) (s : State) : (sendByte b s).adcH = s.adcH := rfl
@[simp] theorem sendByte_tfine (b : Byte) (s : State) : (sendByte b s).tfine = s.tfine := rfl
@[simp] theorem sendByte_tX100 (b : Byte) (s : State) : (sendByte b s).tX100 = s.tX100 := rfl
@[simp] theorem sendByte_pX100 (b : Byte) (s : State) : (sendByte b s).pX100 = s.pX100 := rfl
@[simp] theorem sendByte_hX1024 (b : Byte) (s : State) : (sendByte b s).hX1024 = s.hX1024 := rfl
@[simp] theorem sendByte_rxbuf (b : Byte) (s : State) : (sendByte b s).rxbuf = s.rxbuf := rfl
@[simp] theorem sendByte_rxHigh (b : Byte) (s : State) : (sendByte b s).rxHigh = s.rxHigh := rfl
@[simp] theorem sendByte_mT (b : Byte) (s : State) : (sendByte b s).mT = s.mT := rfl
@[simp] theorem sendByte_mP (b : Byte) (s : State) : (sendByte b s).mP = s.mP := rfl
@[simp] theorem sendByte_mH (b : Byte) (s : State) : (sendByte b s).mH = s.mH := rfl
@[simp] theorem sendByte_mAlt (b : Byte) (s : State) : (sendByte b s).mAlt = s.mAlt := rfl
@[simp] theorem sendByte_measValid (b : Byte) (s : State) : (sendByte b s).measValid = s.measValid := rfl
@[simp] theorem sendByte_chipId (b : Byte) (s : State) : (sendByte b s).chipId = s.chipId := rfl
@[simp] theorem sendByte_idSeen (b : Byte) (s : State) : (sendByte b s).idSeen = s.idSeen := rfl
@[simp] theorem sendByte_mode (b : Byte) (s : State) : (sendByte b s).mode = s.mode := rfl
@[simp] theorem sendByte_initDone (b : Byte) (s : State) : (sendByte b s).initDone = s.initDone := rfl
@[simp] theorem sendByte_cyc (b : Byte) (s : State) : (sendByte b s).cyc = s.cyc := rfl
@[simp] theorem sendByte_err (b : Byte) (s : State) : (sendByte b s).err = s.err := rfl
@[simp] theorem sendByte_upc (b : Byte) (s : State) : (sendByte b s).upc = s.upc := rfl
@[simp] theorem sendByte_busy (b : Byte) (s : State) : (sendByte b s).busy = s.busy := rfl
@[simp] theorem sendByte_pollCnt (b : Byte) (s : State) : (sendByte b s).pollCnt = s.pollCnt := rfl
@[simp] theorem sendByte_polling (b : Byte) (s : State) : (sendByte b s).polling = s.polling := rfl
@[simp] theorem sendByte_csn (b : Byte) (s : State) : (sendByte b s).csn = s.csn := rfl
@[simp] theorem sendByte_sck (b : Byte) (s : State) : (sendByte b s).sck = s.sck := rfl
@[simp] theorem sendByte_host (b : Byte) (s : State) : (sendByte b s).host = s.host := rfl
@[simp] theorem sendByte_draws (b : Byte) (s : State) : (sendByte b s).draws = s.draws := rfl

@[simp] theorem sendByte_sdo (b : Byte) (s : State) : (sendByte b s).sdo = b := rfl
@[simp] theorem sendByte_hist (b : Byte) (s : State) : (sendByte b s).hist = s.hist ++ [.tx b] := rfl

/-! ## oracle, recvByte, recvBytes -/

@[simp] theorem oracle_cfg (s : State) : ((oracle s).2).cfg = s.cfg := by
  unfold oracle; split <;> [rfl; (split <;> rfl)]
@[simp] theorem oracle_cal (s : State) : ((oracle s).2).cal = s.cal := by
  unfold oracle; split <;> [rfl; (split <;> rfl)]
@[simp] theorem oracle_calaValid (s : State) : ((oracle s).2).calaValid = s.calaValid := by
  unfold oracle; split <;> [rfl; (split <;> rfl)]
@[simp] theorem oracle_calbValid (s : State) : ((oracle s).2).calbValid = s.calbValid := by
  unfold oracle; split <;> [rfl; (split <;> rfl)]
@[simp] theorem oracle_adcP (s : State) : ((oracle s).2).adcP = s.adcP := by
  unfold oracle; split <;> [rfl; (split <;> rfl)]
@[simp] theorem oracle_adcT (s : State) : ((oracle s).2).adcT = s.adcT := by
  unfold oracle; split <;> [rfl; (split <;> rfl)]
@[simp] theorem oracle_adcH (s : State) : ((oracle s).2).adcH = s.adcH := by
  unfold oracle; split <;> [rfl; (split <;> rfl)]
@[simp] theorem oracle_tfine (s : State) : ((oracle s).2).tfine = s.tfine := by
  unfold oracle; split <;> [rfl; (split <;> rfl)]
@[simp] theorem oracle_tX100 (s : State) : ((oracle s).2).tX100 = s.tX100 := by
  unfold oracle; split <;> [rfl; (split <;> rfl)]
@[simp] theorem oracle_pX100 (s : State) : ((oracle s).2).pX100 = s.pX100 := by
  unfold oracle; split <;> [rfl; (split <;> rfl)]
@[simp] theorem oracle_hX1024 (s : State) : ((oracle s).2).hX1024 = s.hX1024 := by
  unfold oracle; split <;> [rfl; (split <;> rfl)]
@[simp] theorem oracle_rxbuf (s : State) : ((oracle s).2).rxbuf = s.rxbuf := by
  unfold oracle; split <;> [rfl; (split <;> rfl)]
@[simp] theorem oracle_rxHigh (s : State) : ((oracle s).2).rxHigh = s.rxHigh := by
  unfold oracle; split <;> [rfl; (split <;> rfl)]
@[simp] theorem oracle_mT (s : State) : ((oracle s).2).mT = s.mT := by
  unfold oracle; split <;> [rfl; (split <;> rfl)]
@[simp] theorem oracle_mP (s : State) : ((oracle s).2).mP = s.mP := by
  unfold oracle; split <;> [rfl; (split <;> rfl)]
@[simp] theorem oracle_mH (s : State) : ((oracle s).2).mH = s.mH := by
  unfold oracle; split <;> [rfl; (split <;> rfl)]
@[simp] theorem oracle_mAlt (s : State) : ((oracle s).2).mAlt = s.mAlt := by
  unfold oracle; split <;> [rfl; (split <;> rfl)]
@[simp] theorem oracle_measValid (s : State) : ((oracle s).2).measValid = s.measValid := by
  unfold oracle; split <;> [rfl; (split <;> rfl)]
@[simp] theorem oracle_chipId (s : State) : ((oracle s).2).chipId = s.chipId := by
  unfold oracle; split <;> [rfl; (split <;> rfl)]
@[simp] theorem oracle_idSeen (s : State) : ((oracle s).2).idSeen = s.idSeen := by
  unfold oracle; split <;> [rfl; (split <;> rfl)]
@[simp] theorem oracle_mode (s : State) : ((oracle s).2).mode = s.mode := by
  unfold oracle; split <;> [rfl; (split <;> rfl)]
@[simp] theorem oracle_initDone (s : State) : ((oracle s).2).initDone = s.initDone := by
  unfold oracle; split <;> [rfl; (split <;> rfl)]
@[simp] theorem oracle_cyc (s : State) : ((oracle s).2).cyc = s.cyc := by
  unfold oracle; split <;> [rfl; (split <;> rfl)]
@[simp] theorem oracle_err (s : State) : ((oracle s).2).err = s.err := by
  unfold oracle; split <;> [rfl; (split <;> rfl)]
@[simp] theorem oracle_upc (s : State) : ((oracle s).2).upc = s.upc := by
  unfold oracle; split <;> [rfl; (split <;> rfl)]
@[simp] theorem oracle_busy (s : State) : ((oracle s).2).busy = s.busy := by
  unfold oracle; split <;> [rfl; (split <;> rfl)]
@[simp] theorem oracle_pollCnt (s : State) : ((oracle s).2).pollCnt = s.pollCnt := by
  unfold oracle; split <;> [rfl; (split <;> rfl)]
@[simp] theorem oracle_polling (s : State) : ((oracle s).2).polling = s.polling := by
  unfold oracle; split <;> [rfl; (split <;> rfl)]
@[simp] theorem oracle_csn (s : State) : ((oracle s).2).csn = s.csn := by
  unfold oracle; split <;> [rfl; (split <;> rfl)]
@[simp] theorem oracle_sck (s : State) : ((oracle s).2).sck = s.sck := by
  unfold oracle; split <;> [rfl; (split <;> rfl)]
@[simp] theorem oracle_sdo (s : State) : ((oracle s).2).sdo = s.sdo := by
  unfold oracle; split <;> [rfl; (split <;> rfl)]
@[simp] theorem oracle_hist (s : State) : ((oracle s).2).hist = s.hist := by
  unfold oracle; split <;> [rfl; (split <;> rfl)]
@[simp] theorem oracle_host (s : State) : ((oracle s).2).host = s.host := by
  unfold oracle; split <;> [rfl; (split <;> rfl)]

@[simp] theorem recvByte_cfg (s : State) : ((recvByte s).2).cfg = s.cfg := by simp [recvByte]
@[simp] theorem recvByte_cal (s : State) : ((recvByte s).2).cal = s.cal := by simp [recvByte]
@[simp] theorem recvByte_calaValid (s : State) : ((recvByte s).2).calaValid = s.calaValid := by simp [recvByte]
@[simp] theorem recvByte_calbValid (s : State) : ((recvByte s).2).calbValid = s.calbValid := by simp [recvByte]
@[simp] theorem recvByte_adcP (s : State) : ((recvByte s).2).adcP = s.adcP := by simp [recvByte]
@[simp] theorem recvByte_adcT (s : State) : ((recvByte s).2).adcT = s.adcT := by simp [recvByte]
@[simp] theorem recvByte_adcH (s : State) : ((recvByte s).2).adcH = s.adcH := by simp [recvByte]
@[simp] theorem recvByte_tfine (s : State) : ((recvByte s).2).tfine = s.tfine := by simp [recvByte]
@[simp] theorem recvByte_tX100 (s : State) : ((recvByte s).2).tX100 = s.tX100 := by simp [recvByte]
@[simp] theorem recvByte_pX100 (s : State) : ((recvByte s).2).pX100 = s.pX100 := by simp [recvByte]
@[simp] theorem recvByte_hX1024 (s : State) : ((recvByte s).2).hX1024 = s.hX1024 := by simp [recvByte]
@[simp] theorem recvByte_rxbuf (s : State) : ((recvByte s).2).rxbuf = s.rxbuf := by simp [recvByte]
@[simp] theorem recvByte_rxHigh (s : State) : ((recvByte s).2).rxHigh = s.rxHigh := by simp [recvByte]
@[simp] theorem recvByte_mT (s : State) : ((recvByte s).2).mT = s.mT := by simp [recvByte]
@[simp] theorem recvByte_mP (s : State) : ((recvByte s).2).mP = s.mP := by simp [recvByte]
@[simp] theorem recvByte_mH (s : State) : ((recvByte s).2).mH = s.mH := by simp [recvByte]
@[simp] theorem recvByte_mAlt (s : State) : ((recvByte s).2).mAlt = s.mAlt := by simp [recvByte]
@[simp] theorem recvByte_measValid (s : State) : ((recvByte s).2).measValid = s.measValid := by simp [recvByte]
@[simp] theorem recvByte_chipId (s : State) : ((recvByte s).2).chipId = s.chipId := by simp [recvByte]
@[simp] theorem recvByte_idSeen (s : State) : ((recvByte s).2).idSeen = s.idSeen := by simp [recvByte]
@[simp] theorem recvByte_mode (s : State) : ((recvByte s).2).mode = s.mode := by simp [recvByte]
@[simp] theorem recvByte_initDone (s : State) : ((recvByte s).2).initDone = s.initDone := by simp [recvByte]
@[simp] theorem recvByte_cyc (s : State) : ((recvByte s).2).cyc = s.cyc := by simp [recvByte]
@[simp] theorem recvByte_err (s : State) : ((recvByte s).2).err = s.err := by simp [recvByte]
@[simp] theorem recvByte_upc (s : State) : ((recvByte s).2).upc = s.upc := by simp [recvByte]
@[simp] theorem recvByte_busy (s : State) : ((recvByte s).2).busy = s.busy := by simp [recvByte]
@[simp] theorem recvByte_pollCnt (s : State) : ((recvByte s).2).pollCnt = s.pollCnt := by simp [recvByte]
@[simp] theorem recvByte_polling (s : State) : ((recvByte s).2).polling = s.polling := by simp [recvByte]
@[simp] theorem recvByte_csn (s : State) : ((recvByte s).2).csn = s.csn := by simp [recvByte]
@[simp] theorem recvByte_sck (s : State) : ((recvByte s).2).sck = s.sck := by simp [recvByte]
@[simp] theorem recvByte_host (s : State) : ((recvByte s).2).host = s.host := by simp [recvByte]

@[simp] theorem recvByte_hist (s : State) : (recvByte s).2.hist = s.hist ++ [.rx (recvByte s).1] := by simp [recvByte]

@[simp] theorem recvByte_sdo (s : State) : (recvByte s).2.sdo = s.cfg.rdFill := rfl

@[simp] theorem recvBytes_cfg (n : Nat) (s : State) : ((recvBytes n s).2).cfg = s.cfg := by
  induction n generalizing s with
  | zero => rfl
  | succ n ih => simp [recvBytes, ih]
@[simp] theorem recvBytes_cal (n : Nat) (s : State) : ((recvBytes n s).2).cal = s.cal := by
  induction n generalizing s with
  | zero => rfl
  | succ n ih => simp [recvBytes, ih]
@[simp] theorem recvBytes_calaValid (n : Nat) (s : State) : ((recvBytes n s).2).calaValid = s.calaValid := by
  induction n generalizing s with
  | zero => rfl
  | succ n ih => simp [recvBytes, ih]
@[simp] theorem recvBytes_calbValid (n : Nat) (s : State) : ((recvBytes n s).2).calbValid = s.calbValid := by
  induction n generalizing s with
  | zero => rfl
  | succ n ih => simp [recvBytes, ih]
@[simp] theorem recvBytes_adcP (n : Nat) (s : State) : ((recvBytes n s).2).adcP = s.adcP := by
  induction n generalizing s with
  | zero => rfl
  | succ n ih => simp [recvBytes, ih]
@[simp] theorem recvBytes_adcT (n : Nat) (s : State) : ((recvBytes n s).2).adcT = s.adcT := by
  induction n generalizing s with
  | zero => rfl
  | succ n ih => simp [recvBytes, ih]
@[simp] theorem recvBytes_adcH (n : Nat) (s : State) : ((recvBytes n s).2).adcH = s.adcH := by
  induction n generalizing s with
  | zero => rfl
  | succ n ih => simp [recvBytes, ih]
@[simp] theorem recvBytes_tfine (n : Nat) (s : State) : ((recvBytes n s).2).tfine = s.tfine := by
  induction n generalizing s with
  | zero => rfl
  | succ n ih => simp [recvBytes, ih]
@[simp] theorem recvBytes_tX100 (n : Nat) (s : State) : ((recvBytes n s).2).tX100 = s.tX100 := by
  induction n generalizing s with
  | zero => rfl
  | succ n ih => simp [recvBytes, ih]
@[simp] theorem recvBytes_pX100 (n : Nat) (s : State) : ((recvBytes n s).2).pX100 = s.pX100 := by
  induction n generalizing s with
  | zero => rfl
  | succ n ih => simp [recvBytes, ih]
@[simp] theorem recvBytes_hX1024 (n : Nat) (s : State) : ((recvBytes n s).2).hX1024 = s.hX1024 := by
  induction n generalizing s with
  | zero => rfl
  | succ n ih => simp [recvBytes, ih]
@[simp] theorem recvBytes_rxbuf (n : Nat) (s : State) : ((recvBytes n s).2).rxbuf = s.rxbuf := by
  induction n generalizing s with
  | zero => rfl
  | succ n ih => simp [recvBytes, ih]
@[simp] theorem recvBytes_rxHigh (n : Nat) (s : State) : ((recvBytes n s).2).rxHigh = s.rxHigh := by
  induction n generalizing s with
  | zero => rfl
  | succ n ih => simp [recvBytes, ih]
@[simp] theorem recvBytes_mT (n : Nat) (s : State) : ((recvBytes n s).2).mT = s.mT := by
  induction n generalizing s with
  | zero => rfl
  | succ n ih => simp [recvBytes, ih]
@[simp] theorem recvBytes_mP (n : Nat) (s : State) : ((recvBytes n s).2).mP = s.mP := by
  induction n generalizing s with
  | zero => rfl
  | succ n ih => simp [recvBytes, ih]
@[simp] theorem recvBytes_mH (n : Nat) (s : State) : ((recvBytes n s).2).mH = s.mH := by
  induction n generalizing s with
  | zero => rfl
  | succ n ih => simp [recvBytes, ih]
@[simp] theorem recvBytes_mAlt (n : Nat) (s : State) : ((recvBytes n s).2).mAlt = s.mAlt := by
  induction n generalizing s with
  | zero => rfl
  | succ n ih => simp [recvBytes, ih]
@[simp] theorem recvBytes_measValid (n : Nat) (s : State) : ((recvBytes n s).2).measValid = s.measValid := by
  induction n generalizing s with
  | zero => rfl
  | succ n ih => simp [recvBytes, ih]
@[simp] theorem recvBytes_chipId (n : Nat) (s : State) : ((recvBytes n s).2).chipId = s.chipId := by
  induction n generalizing s with
  | zero => rfl
  | succ n ih => simp [recvBytes, ih]
@[simp] theorem recvBytes_idSeen (n : Nat) (s : State) : ((recvBytes n s).2).idSeen = s.idSeen := by
  induction n generalizing s with
  | zero => rfl
  | succ n ih => simp [recvBytes, ih]
@[simp] theorem recvBytes_mode (n : Nat) (s : State) : ((recvBytes n s).2).mode = s.mode := by
  induction n generalizing s with
  | zero => rfl
  | succ n ih => simp [recvBytes, ih]
@[simp] theorem recvBytes_initDone (n : Nat) (s : State) : ((recvBytes n s).2).initDone = s.initDone := by
  induction n generalizing s with
  | zero => rfl
  | succ n ih => simp [recvBytes, ih]
@[simp] theorem recvBytes_cyc (n : Nat) (s : State) : ((recvBytes n s).2).cyc = s.cyc := by
  induction n generalizing s with
  | zero => rfl
  | succ n ih => simp [recvBytes, ih]
@[simp] theorem recvBytes_err (n : Nat) (s : State) : ((recvBytes n s).2).err = s.err := by
  induction n generalizing s with
  | zero => rfl
  | succ n ih => simp [recvBytes, ih]
@[simp] theorem recvBytes_upc (n : Nat) (s : State) : ((recvBytes n s).2).upc = s.upc := by
  induction n generalizing s with
  | zero => rfl
  | succ n ih => simp [recvBytes, ih]
@[simp] theorem recvBytes_busy (n : Nat) (s : State) : ((recvBytes n s).2).busy = s.busy := by
  induction n generalizing s with
  | zero => rfl
  | succ n ih => simp [recvBytes, ih]
@[simp] theorem recvBytes_pollCnt (n : Nat) (s : State) : ((recvBytes n s).2).pollCnt = s.pollCnt := by
  induction n generalizing s with
  | zero => rfl
  | succ n ih => simp [recvBytes, ih]
@[simp] theorem recvBytes_polling (n : Nat) (s : State) : ((recvBytes n s).2).polling = s.polling := by
  induction n generalizing s with
  | zero => rfl
  | succ n ih => simp [recvBytes, ih]
@[simp] theorem recvBytes_csn (n : Nat) (s : State) : ((recvBytes n s).2).csn = s.csn := by
  induction n generalizing s with
  | zero => rfl
  | succ n ih => simp [recvBytes, ih]
@[simp] theorem recvBytes_sck (n : Nat) (s : State) : ((recvBytes n s).2).sck = s.sck := by
  induction n generalizing s with
  | zero => rfl
  | succ n ih => simp [recvBytes, ih]
@[simp] theorem recvBytes_host (n : Nat) (s : State) : ((recvBytes n s).2).host = s.host := by
  induction n generalizing s with
  | zero => rfl
  | succ n ih => simp [recvBytes, ih]

@[simp] theorem recvBytes_hist (n : Nat) (s : State) :
    (recvBytes n s).2.hist = s.hist ++ (recvBytes n s).1.map .rx := by
  induction n generalizing s with
  | zero => simp [recvBytes]
  | succ n ih => simp [recvBytes, ih]

@[simp] theorem recvBytes_length (n : Nat) (s : State) : (recvBytes n s).1.length = n := by
  induction n generalizing s with
  | zero => rfl
  | succ n ih => simp [recvBytes, ih]

/-! ## storeRx -/

@[simp] theorem storeRx_cfg (bs : List Byte) (s : State) : (storeRx bs s).cfg = s.cfg := rfl
@[simp] theorem storeRx_cal (bs : List Byte) (s : State) : (storeRx bs s).cal = s.cal := rfl
@[simp] theorem storeRx_calaValid (bs : List Byte) (s : State) : (storeRx bs s).calaValid = s.calaValid := rfl
@[simp] theorem storeRx_calbValid (bs : List Byte) (s : State) : (storeRx bs s).calbValid = s.calbValid := rfl
@[simp] theorem storeRx_adcP (bs : List Byte) (s : State) : (storeRx bs s).adcP = s.adcP := rfl
@[simp] theorem storeRx_adcT (bs : List Byte) (s : State) : (storeRx bs s).adcT = s.adcT := rfl
@[simp] theorem storeRx_adcH (bs : List Byte) (s : State) : (storeRx bs s).adcH = s.adcH := rfl
@[simp] theorem storeRx_tfine (bs : List Byte) (s : State) : (storeRx bs s).tfine = s.tfine := rfl
@[simp] theorem storeRx_tX100 (bs : List Byte) (s : State) : (storeRx bs s).tX100 = s.tX100 := rfl
@[simp] theorem storeRx_pX100 (bs : List Byte) (s : State) : (storeRx bs s).pX100 = s.pX100 := rfl
@[simp] theorem storeRx_hX1024 (bs : List Byte) (s : State) : (storeRx bs s).hX1024 = s.hX1024 := rfl
@[simp] theorem storeRx_mT (bs : List Byte) (s : State) : (storeRx bs s).mT = s.mT := rfl
@[simp] theorem storeRx_mP (bs : List Byte) (s : State) : (storeRx bs s).mP = s.mP := rfl
@[simp] theorem storeRx_mH (bs : List Byte) (s : State) : (storeRx bs s).mH = s.mH := rfl
@[simp] theorem storeRx_mAlt (bs : List Byte) (s : State) : (storeRx bs s).mAlt = s.mAlt := rfl
@[simp] theorem storeRx_measValid (bs : List Byte) (s : State) : (storeRx bs s).measValid = s.measValid := rfl
@[simp] theorem storeRx_chipId (bs : List Byte) (s : State) : (storeRx bs s).chipId = s.chipId := rfl
@[simp] theorem storeRx_idSeen (bs : List Byte) (s : State) : (storeRx bs s).idSeen = s.idSeen := rfl
@[simp] theorem storeRx_mode (bs : List Byte) (s : State) : (storeRx bs s).mode = s.mode := rfl
@[simp] theorem storeRx_initDone (bs : List Byte) (s : State) : (storeRx bs s).initDone = s.initDone := rfl
@[simp] theorem storeRx_cyc (bs : List Byte) (s : State) : (storeRx bs s).cyc = s.cyc := rfl
@[simp] theorem storeRx_err (bs : List Byte) (s : State) : (storeRx bs s).err = s.err := rfl
@[simp] theorem storeRx_upc (bs : List Byte) (s : State) : (storeRx bs s).upc = s.upc := rfl
@[simp] theorem storeRx_busy (bs : List Byte) (s : State) : (storeRx bs s).busy = s.busy := rfl
@[simp] theorem storeRx_pollCnt (bs : List Byte) (s : State) : (storeRx bs s).pollCnt = s.pollCnt := rfl
@[simp] theorem storeRx_polling (bs : List Byte) (s : State) : (storeRx bs s).polling = s.polling := rfl
@[simp] theorem storeRx_csn (bs : List Byte) (s : State) : (storeRx bs s).csn = s.csn := rfl
@[simp] theorem storeRx_sck (bs : List Byte) (s : State) : (storeRx bs s).sck = s.sck := rfl
@[simp] theorem storeRx_sdo (bs : List Byte) (s : State) : (storeRx bs s).sdo = s.sdo := rfl
@[simp] theorem storeRx_hist (bs : List Byte) (s : State) : (storeRx bs s).hist = s.hist := rfl
@[simp] theorem storeRx_dev (bs : List Byte) (s : State) : (storeRx bs s).dev = s.dev := rfl
@[simp] theorem storeRx_host (bs : List Byte) (s : State) : (storeRx bs s).host = s.host := rfl
@[simp] theorem storeRx_draws (bs : List Byte) (s : State) : (storeRx bs s).draws = s.draws := rfl

@[simp] theorem storeRx_rxbuf (bs : List Byte) (s : State) : (storeRx bs s).rxbuf = bs ++ s.rxbuf.drop bs.length := rfl
@[simp] theorem storeRx_rxHigh (bs : List Byte) (s : State) : (storeRx bs s).rxHigh = max s.rxHigh bs.length := rfl

/-! ## write frames -/

@[simp] theorem sendFrame_cfg (w d : Byte) (s : State) : (sendFrame w d s).cfg = s.cfg := by simp [sendFrame]
@[simp] theorem sendFrame_cal (w d : Byte) (s : State) : (sendFrame w d s).cal = s.cal := by simp [sendFrame]
@[simp] theorem sendFrame_calaValid (w d : Byte) (s : State) : (sendFrame w d s).calaValid = s.calaValid := by simp [sendFrame]
@[simp] theorem sendFrame_calbValid (w d : Byte) (s : State) : (sendFrame w d s).calbValid = s.calbValid := by simp [sendFrame]
@[simp] theorem sendFrame_adcP (w d : Byte) (s : State) : (sendFrame w d s).adcP = s.adcP := by simp [sendFrame]
@[simp] theorem sendFrame_adcT (w d : Byte) (s : State) : (sendFrame w d s).adcT = s.adcT := by simp [sendFrame]
@[simp] theorem sendFrame_adcH (w d : Byte) (s : State) : (sendFrame w d s).adcH = s.adcH := by simp [sendFrame]
@[simp] theorem sendFrame_tfine (w d : Byte) (s : State) : (sendFrame w d s).tfine = s.tfine := by simp [sendFrame]
@[simp] theorem sendFrame_tX100 (w d : Byte) (s : State) : (sendFrame w d s).tX100 = s.tX100 := by simp [sendFrame]
@[simp] theorem sendFrame_pX100 (w d : Byte) (s : State) : (sendFrame w d s).pX100 = s.pX100 := by simp [sendFrame]
@[simp] theorem sendFrame_hX1024 (w d : Byte) (s : State) : (sendFrame w d s).hX1024 = s.hX1024 := by simp [sendFrame]
@[simp] theorem sendFrame_rxbuf (w d : Byte) (s : State) : (sendFrame w d s).rxbuf = s.rxbuf := by simp [sendFrame]
@[simp] theorem sendFrame_rxHigh (w d : Byte) (s : State) : (sendFrame w d s).rxHigh = s.rxHigh := by simp [sendFrame]
@[simp] theorem sendFrame_mT (w d : Byte) (s : State) : (sendFrame w d s).mT = s.mT := by simp [sendFrame]
@[simp] theorem sendFrame_mP (w d : Byte) (s : State) : (sendFrame w d s).mP = s.mP := by simp [sendFrame]
@[simp] theorem sendFrame_mH (w d : Byte) (s : State) : (sendFrame w d s).mH = s.mH := by simp [sendFrame]
@[simp] theorem sendFrame_mAlt (w d : Byte) (s : State) : (sendFrame w d s).mAlt = s.mAlt := by simp [sendFrame]
@[simp] theorem sendFrame_measValid (w d : Byte) (s : State) : (sendFrame w d s).measValid = s.measValid := by simp [sendFrame]
@[simp] theorem sendFrame_chipId (w d : Byte) (s : State) : (sendFrame w d s).chipId = s.chipId := by simp [sendFrame]
@[simp] theorem sendFrame_idSeen (w d : Byte) (s : State) : (sendFrame w d s).idSeen = s.idSeen := by simp [sendFrame]
@[simp] theorem sendFrame_mode (w d : Byte) (s : State) : (sendFrame w d s).mode = s.mode := by simp [sendFrame]
@[simp] theorem sendFrame_initDone (w d : Byte) (s : State) : (sendFrame w d s).initDone = s.initDone := by simp [sendFrame]
@[simp] theorem sendFrame_cyc (w d : Byte) (s : State) : (sendFrame w d s).cyc = s.cyc := by simp [sendFrame]
@[simp] theorem sendFrame_err (w d : Byte) (s : State) : (sendFrame w d s).err = s.err := by simp [sendFrame]
@[simp] theorem sendFrame_upc (w d : Byte) (s : State) : (sendFrame w d s).upc = s.upc := by simp [sendFrame]
@[simp] theorem sendFrame_busy (w d : Byte) (s : State) : (sendFrame w d s).busy = s.busy := by simp [sendFrame]
@[simp] theorem sendFrame_pollCnt (w d : Byte) (s : State) : (sendFrame w d s).pollCnt = s.pollCnt := by simp [sendFrame]
@[simp] theorem sendFrame_polling (w d : Byte) (s : State) : (sendFrame w d s).polling = s.polling := by simp [sendFrame]
@[simp] theorem sendFrame_sck (w d : Byte) (s : State) : (sendFrame w d s).sck = s.sck := by simp [sendFrame]
@[simp] theorem sendFrame_host (w d : Byte) (s : State) : (sendFrame w d s).host = s.host := by simp [sendFrame]
@[simp] theorem sendFrame_draws (w d : Byte) (s : State) : (sendFrame w d s).draws = s.draws := by simp [sendFrame]

@[simp] theorem sendFrame_csn (w d : Byte) (s : State) : (sendFrame w d s).csn = true := by simp [sendFrame]
@[simp] theorem sendFrame_sdo (w d : Byte) (s : State) : (sendFrame w d s).sdo = d := by simp [sendFrame]
@[simp] theorem sendFrame_hist (w d : Byte) (s : State) :
    (sendFrame w d s).hist = s.hist ++ [.sel, .dly .edge, .tx w, .tx d, .desel, .dly .edge, .dly .post] := by
  simp [sendFrame]

/-! ## read frames -/

@[simp] theorem readFrame_cfg (w : Byte) (n : Nat) (s : State) : ((readFrame w n s).2).cfg = s.cfg := by simp [readFrame]
@[simp] theorem readFrame_cal (w : Byte) (n : Nat) (s : State) : ((readFrame w n s).2).cal = s.cal := by simp [readFrame]
@[simp] theorem readFrame_calaValid (w : Byte) (n : Nat) (s : State) : ((readFrame w n s).2).calaValid = s.calaValid := by simp [readFrame]
@[simp] theorem readFrame_calbValid (w : Byte) (n : Nat) (s : State) : ((readFrame w n s).2).calbValid = s.calbValid := by simp [readFrame]
@[simp] theorem readFrame_adcP (w : Byte) (n : Nat) (s : State) : ((readFrame w n s).2).adcP = s.adcP := by simp [readFrame]
@[simp] theorem readFrame_adcT (w : Byte) (n : Nat) (s : State) : ((readFrame w n s).2).adcT = s.adcT := by simp [readFrame]
@[simp] theorem readFrame_adcH (w : Byte) (n : Nat) (s : State) : ((readFrame w n s).2).adcH = s.adcH := by simp [readFrame]
@[simp] theorem readFrame_tfine (w : Byte) (n : Nat) (s : State) : ((readFrame w n s).2).tfine = s.tfine := by simp [readFrame]
@[simp] theorem readFrame_tX100 (w : Byte) (n : Nat) (s : State) : ((readFrame w n s).2).tX100 = s.tX100 := by simp [readFrame]
@[simp] theorem readFrame_pX100 (w : Byte) (n : Nat) (s : State) : ((readFrame w n s).2).pX100 = s.pX100 := by simp [readFrame]
@[simp] theorem readFrame_hX1024 (w : Byte) (n : Nat) (s : State) : ((readFrame w n s).2).hX1024 = s.hX1024 := by simp [readFrame]
@[simp] theorem readFrame_mT (w : Byte) (n : Nat) (s : State) : ((readFrame w n s).2).mT = s.mT := by simp [readFrame]
@[simp] theorem readFrame_mP (w : Byte) (n : Nat) (s : State) : ((readFrame w n s).2).mP = s.mP := by simp [readFrame]
@[simp] theorem readFrame_mH (w : Byte) (n : Nat) (s : State) : ((readFrame w n s).2).mH = s.mH := by simp [readFrame]
@[simp] theorem readFrame_mAlt (w : Byte) (n : Nat) (s : State) : ((readFrame w n s).2).mAlt = s.mAlt := by simp [readFrame]
@[simp] theorem readFrame_measValid (w : Byte) (n : Nat) (s : State) : ((readFrame w n s).2).measValid = s.measValid := by simp [readFrame]
@[simp] theorem readFrame_chipId (w : Byte) (n : Nat) (s : State) : ((readFrame w n s).2).chipId = s.chipId := by simp [readFrame]
@[simp] theorem readFrame_idSeen (w : Byte) (n : Nat) (s : State) : ((readFrame w n s).2).idSeen = s.idSeen := by simp [readFrame]
@[simp] theorem readFrame_mode (w : Byte) (n : Nat) (s : State) : ((readFrame w n s).2).mode = s.mode := by simp [readFrame]
@[simp] theorem readFrame_initDone (w : Byte) (n : Nat) (s : State) : ((readFrame w n s).2).initDone = s.initDone := by simp [readFrame]
@[simp] theorem readFrame_cyc (w : Byte) (n : Nat) (s : State) : ((readFrame w n s).2).cyc = s.cyc := by simp [readFrame]
@[simp] theorem readFrame_err (w : Byte) (n : Nat) (s : State) : ((readFrame w n s).2).err = s.err := by simp [readFrame]
@[simp] theorem readFrame_upc (w : Byte) (n : Nat) (s : State) : ((readFrame w n s).2).upc = s.upc := by simp [readFrame]
@[simp] theorem readFrame_busy (w : Byte) (n : Nat) (s : State) : ((readFrame w n s).2).busy = s.busy := by simp [readFrame]
@[simp] theorem readFrame_pollCnt (w : Byte) (n : Nat) (s : State) : ((readFrame w n s).2).pollCnt = s.pollCnt := by simp [readFrame]
@[simp] theorem readFrame_polling (w : Byte) (n : Nat) (s : State) : ((readFrame w n s).2).polling = s.polling := by simp [readFrame]
@[simp] theorem readFrame_sck (w : Byte) (n : Nat) (s : State) : ((readFrame w n s).2).sck = s.sck := by simp [readFrame]
@[simp] theorem readFrame_host (w : Byte) (n : Nat) (s : State) : ((readFrame w n s).2).host = s.host := by simp [readFrame]

@[simp] theorem readFrame_csn (w : Byte) (n : Nat) (s : State) : (readFrame w n s).2.csn = true := by simp [readFrame]
@[simp] theorem readFrame_length (w : Byte) (n : Nat) (s : State) : (readFrame w n s).1.length = n := by simp [readFrame]
@[simp] theorem readFrame_hist (w : Byte) (n : Nat) (s : State) :
    (readFrame w n s).2.hist =
      s.hist ++ [.sel, .dly .edge, .tx w] ++ (readFrame w n s).1.map .rx ++ [.desel, .dly .edge] := by
  simp [readFrame]
@[simp] theorem readFrame_rxbuf (w : Byte) (n : Nat) (s : State) :
    (readFrame w n s).2.rxbuf = (readFrame w n s).1 ++ s.rxbuf.drop n := by simp [readFrame]
@[simp] theorem readFrame_rxHigh (w : Byte) (n : Nat) (s : State) :
    (readFrame w n s).2.rxHigh = max s.rxHigh n := by simp [readFrame]

/-! ## busWrite and busRead are frames -/

theorem busWrite_eq_sendFrame (a d : Byte) (s : State) : busWrite a d s = sendFrame (writeByte a) d s := rfl
theorem busRead_eq_readFrame (a : Byte) (n : Nat) (s : State) : busRead a n s = readFrame (readByte a) n s := rfl

/-! ## raiseErr, finish, countPoll -/

@[simp] theorem raiseErr_cfg (e : ErrCause) (s : State) : (raiseErr e s).cfg = s.cfg := rfl
@[simp] theorem raiseErr_cal (e : ErrCause) (s : State) : (raiseErr e s).cal = s.cal := rfl
@[simp] theorem raiseErr_calaValid (e : ErrCause) (s : State) : (raiseErr e s).calaValid = s.calaValid := rfl
@[simp] theorem raiseErr_calbValid (e : ErrCause) (s : State) : (raiseErr e s).calbValid = s.calbValid := rfl
@[simp] theorem raiseErr_adcP (e : ErrCause) (s : State) : (raiseErr e s).adcP = s.adcP := rfl
@[simp] theorem raiseErr_adcT (e : ErrCause) (s : State) : (raiseErr e s).adcT = s.adcT := rfl
@[simp] theorem raiseErr_adcH (e : ErrCause) (s : State) : (raiseErr e s).adcH = s.adcH := rfl
@[simp] theorem raiseErr_tfine (e : ErrCause) (s : State) : (raiseErr e s).tfine = s.tfine := rfl
@[simp] theorem raiseErr_tX100 (e : ErrCause) (s : State) : (raiseErr e s).tX100 = s.tX100 := rfl
@[simp] theorem raiseErr_pX100 (e : ErrCause) (s : State) : (raiseErr e s).pX100 = s.pX100 := rfl
@[simp] theorem raiseErr_hX1024 (e : ErrCause) (s : State) : (raiseErr e s).hX1024 = s.hX1024 := rfl
@[simp] theorem raiseErr_rxbuf (e : ErrCause) (s : State) : (raiseErr e s).rxbuf = s.rxbuf := rfl
@[simp] theorem raiseErr_rxHigh (e : ErrCause) (s : State) : (raiseErr e s).rxHigh = s.rxHigh := rfl
@[simp] theorem raiseErr_mT (e : ErrCause) (s : State) : (raiseErr e s).mT = s.mT := rfl
@[simp] theorem raiseErr_mP (e : ErrCause) (s : State) : (raiseErr e s).mP = s.mP := rfl
@[simp] theorem raiseErr_mH (e : ErrCause) (s : State) : (raiseErr e s).mH = s.mH := rfl
@[simp] theorem raiseErr_mAlt (e : ErrCause) (s : State) : (raiseErr e s).mAlt = s.mAlt := rfl
@[simp] theorem raiseErr_measValid (e : ErrCause) (s : State) : (raiseErr e s).measValid = s.measValid := rfl
@[simp] theorem raiseErr_chipId (e : ErrCause) (s : State) : (raiseErr e s).chipId = s.chipId := rfl
@[simp] theorem raiseErr_idSeen (e : ErrCause) (s : State) : (raiseErr e s).idSeen = s.idSeen := rfl
@[simp] theorem raiseErr_mode (e : ErrCause) (s : State) : (raiseErr e s).mode = s.mode := rfl
@[simp] theorem raiseErr_initDone (e : ErrCause) (s : State) : (raiseErr e s).initDone = s.initDone := rfl
@[simp] theorem raiseErr_cyc (e : ErrCause) (s : State) : (raiseErr e s).cyc = s.cyc := rfl
@[simp] theorem raiseErr_pollCnt (e : ErrCause) (s : State) : (raiseErr e s).pollCnt = s.pollCnt := rfl
@[simp] theorem raiseErr_csn (e : ErrCause) (s : State) : (raiseErr e s).csn = s.csn := rfl
@[simp] theorem raiseErr_sck (e : ErrCause) (s : State) : (raiseErr e s).sck = s.sck := rfl
@[simp] theorem raiseErr_sdo (e : ErrCause) (s : State) : (raiseErr e s).sdo = s.sdo := rfl
@[simp] theorem raiseErr_hist (e : ErrCause) (s : State) : (raiseErr e s).hist = s.hist := rfl
@[simp] theorem raiseErr_dev (e : ErrCause) (s : State) : (raiseErr e s).dev = s.dev := rfl
@[simp] theorem raiseErr_host (e : ErrCause) (s : State) : (raiseErr e s).host = s.host := rfl
@[simp] theorem raiseErr_draws (e : ErrCause) (s : State) : (raiseErr e s).draws = s.draws := rfl

@[simp] theorem raiseErr_err (e : ErrCause) (s : State) : (raiseErr e s).err = errSet s.err e := rfl
@[simp] theorem raiseErr_upc (e : ErrCause) (s : State) :
    (raiseErr e s).upc = if upcProg s.upc = 0#2 then s.upc else 0 := rfl
@[simp] theorem raiseErr_busy (e : ErrCause) (s : State) : (raiseErr e s).busy = false := rfl
@[simp] theorem raiseErr_polling (e : ErrCause) (s : State) : (raiseErr e s).polling = false := rfl

@[simp] theorem finish_cfg (s : State) : (finish s).cfg = s.cfg := rfl
@[simp] theorem finish_cal (s : State) : (finish s).cal = s.cal := rfl
@[simp] theorem finish_calaValid (s : State) : (finish s).calaValid = s.calaValid := rfl
@[simp] theorem finish_calbValid (s : State) : (finish s).calbValid = s.calbValid := rfl
@[simp] theorem finish_adcP (s : State) : (finish s).adcP = s.adcP := rfl
@[simp] theorem finish_adcT (s : State) : (finish s).adcT = s.adcT := rfl
@[simp] theorem finish_adcH (s : State) : (finish s).adcH = s.adcH := rfl
@[simp] theorem finish_tfine (s : State) : (finish s).tfine = s.tfine := rfl
@[simp] theorem finish_tX100 (s : State) : (finish s).tX100 = s.tX100 := rfl
@[simp] theorem finish_pX100 (s : State) : (finish s).pX100 = s.pX100 := rfl
@[simp] theorem finish_hX1024 (s : State) : (finish s).hX1024 = s.hX1024 := rfl
@[simp] theorem finish_rxbuf (s : State) : (finish s).rxbuf = s.rxbuf := rfl
@[simp] theorem finish_rxHigh (s : State) : (finish s).rxHigh = s.rxHigh := rfl
@[simp] theorem finish_mT (s : State) : (finish s).mT = s.mT := rfl
@[simp] theorem finish_mP (s : State) : (finish s).mP = s.mP := rfl
@[simp] theorem finish_mH (s : State) : (finish s).mH = s.mH := rfl
@[simp] theorem finish_mAlt (s : State) : (finish s).mAlt = s.mAlt := rfl
@[simp] theorem finish_measValid (s : State) : (finish s).measValid = s.measValid := rfl
@[simp] theorem finish_chipId (s : State) : (finish s).chipId = s.chipId := rfl
@[simp] theorem finish_idSeen (s : State) : (finish s).idSeen = s.idSeen := rfl
@[simp] theorem finish_mode (s : State) : (finish s).mode = s.mode := rfl
@[simp] theorem finish_initDone (s : State) : (finish s).initDone = s.initDone := rfl
@[simp] theorem finish_cyc (s : State) : (finish s).cyc = s.cyc := rfl
@[simp] theorem finish_err (s : State) : (finish s).err = s.err := rfl
@[simp] theorem finish_upc (s : State) : (finish s).upc = s.upc := rfl
@[simp] theorem finish_pollCnt (s : State) : (finish s).pollCnt = s.pollCnt := rfl
@[simp] theorem finish_polling (s : State) : (finish s).polling = s.polling := rfl
@[simp] theorem finish_csn (s : State) : (finish s).csn = s.csn := rfl
@[simp] theorem finish_sck (s : State) : (finish s).sck = s.sck := rfl
@[simp] theorem finish_sdo (s : State) : (finish s).sdo = s.sdo := rfl
@[simp] theorem finish_hist (s : State) : (finish s).hist = s.hist := rfl
@[simp] theorem finish_dev (s : State) : (finish s).dev = s.dev := rfl
@[simp] theorem finish_host (s : State) : (finish s).host = s.host := rfl
@[simp] theorem finish_draws (s : State) : (finish s).draws = s.draws := rfl

@[simp] theorem finish_busy (s : State) : (finish s).busy = false := rfl

@[simp] theorem countPoll_cfg (s : State) : (countPoll s).cfg = s.cfg := rfl
@[simp] theorem countPoll_cal (s : State) : (countPoll s).cal = s.cal := rfl
@[simp] theorem countPoll_calaValid (s : State) : (countPoll s).calaValid = s.calaValid := rfl
@[simp] theorem countPoll_calbValid (s : State) : (countPoll s).calbValid = s.calbValid := rfl
@[simp] theorem countPoll_adcP (s : State) : (countPoll s).adcP = s.adcP := rfl
@[simp] theorem countPoll_adcT (s : State) : (countPoll s).adcT = s.adcT := rfl
@[simp] theorem countPoll_adcH (s : State) : (countPoll s).adcH = s.adcH := rfl
@[simp] theorem countPoll_tfine (s : State) : (countPoll s).tfine = s.tfine := rfl
@[simp] theorem countPoll_tX100 (s : State) : (countPoll s).tX100 = s.tX100 := rfl
@[simp] theorem countPoll_pX100 (s : State) : (countPoll s).pX100 = s.pX100 := rfl
@[simp] theorem countPoll_hX1024 (s : State) : (countPoll s).hX1024 = s.hX1024 := rfl
@[simp] theorem countPoll_rxbuf (s : State) : (countPoll s).rxbuf = s.rxbuf := rfl
@[simp] theorem countPoll_rxHigh (s : State) : (countPoll s).rxHigh = s.rxHigh := rfl
@[simp] theorem countPoll_mT (s : State) : (countPoll s).mT = s.mT := rfl
@[simp] theorem countPoll_mP (s : State) : (countPoll s).mP = s.mP := rfl
@[simp] theorem countPoll_mH (s : State) : (countPoll s).mH = s.mH := rfl
@[simp] theorem countPoll_mAlt (s : State) : (countPoll s).mAlt = s.mAlt := rfl
@[simp] theorem countPoll_measValid (s : State) : (countPoll s).measValid = s.measValid := rfl
@[simp] theorem countPoll_chipId (s : State) : (countPoll s).chipId = s.chipId := rfl
@[simp] theorem countPoll_idSeen (s : State) : (countPoll s).idSeen = s.idSeen := rfl
@[simp] theorem countPoll_mode (s : State) : (countPoll s).mode = s.mode := rfl
@[simp] theorem countPoll_initDone (s : State) : (countPoll s).initDone = s.initDone := rfl
@[simp] theorem countPoll_cyc (s : State) : (countPoll s).cyc = s.cyc := rfl
@[simp] theorem countPoll_err (s : State) : (countPoll s).err = s.err := rfl
@[simp] theorem countPoll_upc (s : State) : (countPoll s).upc = s.upc := rfl
@[simp] theorem countPoll_busy (s : State) : (countPoll s).busy = s.busy := rfl
@[simp] theorem countPoll_polling (s : State) : (countPoll s).polling = s.polling := rfl
@[simp] theorem countPoll_csn (s : State) : (countPoll s).csn = s.csn := rfl
@[simp] theorem countPoll_sck (s : State) : (countPoll s).sck = s.sck := rfl
@[simp] theorem countPoll_sdo (s : State) : (countPoll s).sdo = s.sdo := rfl
@[simp] theorem countPoll_hist (s : State) : (countPoll s).hist = s.hist := rfl
@[simp] theorem countPoll_dev (s : State) : (countPoll s).dev = s.dev := rfl
@[simp] theorem countPoll_host (s : State) : (countPoll s).host = s.host := rfl
@[simp] theorem countPoll_draws (s : State) : (countPoll s).draws = s.draws := rfl

/-! ## applyRst -/

@[simp] theorem applyRst_cfg (h : List HostInput) (s : State) : (applyRst h s).cfg = s.cfg := rfl
@[simp] theorem applyRst_dev (h : List HostInput) (s : State) : (applyRst h s).dev = s.dev := rfl
@[simp] theorem applyRst_draws (h : List HostInput) (s : State) : (applyRst h s).draws = s.draws := rfl

@[simp] theorem applyRst_host (h : List HostInput) (s : State) : (applyRst h s).host = h := rfl

end Sys2Proof.Machine
end

