-- ==== Sys2Proof/Laws/Memory.lean ====
section
/-! SUPPORT. The device memory: a read after a write, and the canonical form kept by every operation that writes it. -/

namespace Sys2Proof.Machine

theorem memWfFrom_cons {lo : Nat} {c : Host.Cell} {m : Memory} :
    memWfFrom lo (c :: m) = true ↔ lo ≤ c.1 ∧ c.1 < 128 ∧ c.2 ≠ memBlank ∧ memWfFrom (c.1 + 1) m = true := by
  simp [memWfFrom, and_assoc]

/-- A lower bound may be lowered. -/
theorem memWfFrom_mono {lo lo' : Nat} {m : Memory} (h : lo' ≤ lo) (hm : memWfFrom lo m = true) :
    memWfFrom lo' m = true := by
  cases m with
  | nil => rfl
  | cons c m => rw [memWfFrom_cons] at hm ⊢; exact ⟨h.trans hm.1, hm.2⟩

/-- Below the first address nothing is listed. -/
theorem memRead_below {lo a : Nat} {m : Memory} (hm : memWfFrom lo m = true) (h : a < lo) : memRead m a = memBlank := by
  induction m generalizing lo with
  | nil => rfl
  | cons c m ih =>
    rw [memWfFrom_cons] at hm
    have : c.1 ≠ a := by omega
    simp only [memRead, this, if_false]
    exact ih hm.2.2.2 (by omega)

/-- A write keeps the canonical form. -/
theorem memWfFrom_memWrite {lo a : Nat} {m : Memory} (v : Byte) (hm : memWfFrom lo m = true) (hlo : lo ≤ a)
    (ha : a < 128) : memWfFrom lo (memWrite m a v) = true := by
  induction m generalizing lo with
  | nil =>
    by_cases hv : v = memBlank
    · simp [memWrite, hv, memWfFrom]
    · rw [memWrite, if_neg hv, memWfFrom_cons]; exact ⟨hlo, ha, hv, rfl⟩
  | cons c m ih =>
    have hc := memWfFrom_cons.mp hm
    by_cases h1 : a < c.1
    · by_cases hv : v = memBlank
      · simpa [memWrite, h1, hv] using hm
      · simp only [memWrite, h1, hv, if_true, if_false]
        rw [memWfFrom_cons]
        exact ⟨hlo, ha, hv, memWfFrom_cons.mpr ⟨h1, hc.2⟩⟩
    · by_cases h2 : a = c.1
      · by_cases hv : v = memBlank
        · simp only [memWrite, h2, hv, if_true, if_false, lt_irrefl]
          exact memWfFrom_mono (by omega) hc.2.2.2
        · simp only [memWrite, h2, hv, if_true, if_false, lt_irrefl]
          rw [memWfFrom_cons]; exact ⟨hc.1, hc.2.1, hv, hc.2.2.2⟩
      · simp only [memWrite, h1, h2, if_false]
        rw [memWfFrom_cons]
        exact ⟨hc.1, hc.2.1, hc.2.2.1, ih hc.2.2.2 (by omega)⟩

theorem memWf_memWrite {a : Nat} {m : Memory} (v : Byte) (hm : memWf m = true) (ha : a < 128) :
    memWf (memWrite m a v) = true := memWfFrom_memWrite v hm (Nat.zero_le a) ha

/-- Reading after a write: the byte written at its address, every other address as before. -/
theorem memRead_memWrite {lo a b : Nat} {m : Memory} (v : Byte) (hm : memWfFrom lo m = true) :
    memRead (memWrite m a v) b = if b = a then v else memRead m b := by
  induction m generalizing lo with
  | nil =>
    by_cases hv : v = memBlank
    · by_cases hb : b = a <;> simp [memWrite, memRead, hv, hb]
    · by_cases hb : b = a
      · simp [memWrite, memRead, hv, hb]
      · simp [memWrite, memRead, hv, hb, Ne.symm hb]
  | cons c m ih =>
    have hc := memWfFrom_cons.mp hm
    by_cases h1 : a < c.1
    · by_cases hv : v = memBlank
      · have h0 : memRead (c :: m) a = memBlank :=
          memRead_below (memWfFrom_cons.mpr ⟨le_refl c.1, hc.2⟩) h1
        by_cases hb : b = a
        · subst hb; simpa [memWrite, h1, hv] using h0
        · simp [memWrite, h1, hv, hb]
      · simp only [memWrite, h1, hv, if_true, if_false]
        by_cases hb : b = a
        · simp [memRead, hb]
        · simp [memRead, hb, Ne.symm hb]
    · by_cases h2 : a = c.1
      · by_cases hv : v = memBlank
        · simp only [memWrite, h2, hv, if_true, if_false, lt_irrefl]
          by_cases hb : b = c.1
          · rw [if_pos hb, hb]; exact memRead_below hc.2.2.2 (by omega)
          · simp [memRead, hb, Ne.symm hb]
        · simp only [memWrite, h2, hv, if_true, if_false, lt_irrefl]
          by_cases hb : b = c.1
          · simp [memRead, hb]
          · simp [memRead, hb, Ne.symm hb]
      · simp only [memWrite, h1, h2, if_false, memRead]
        by_cases hb : c.1 = b
        · have : b ≠ a := by omega
          simp [hb, this]
        · simp only [hb, if_false]; exact ih hc.2.2.2

/-! ## The operations that write the device memory -/

theorem devStatusBit_wf {cfg : Params} {on : Bool} {d : Device} (h : memWf d.reg = true) :
    memWf (devStatusBit cfg on d).reg = true := memWf_memWrite _ h (wireAddr cfg.addrStatus).isLt

/-- Bytes stored one after the other keep the canonical form. -/
theorem memStore_wf {cs : List (BitVec 7 × Byte)} {m : Memory} (h : memWf m = true) : memWf (memStore cs m) = true := by
  induction cs generalizing m with
  | nil => exact h
  | cons c cs ih => exact ih (memWf_memWrite _ h c.1.isLt)

/-- A location none of them names is as before. -/
theorem memRead_memStore_of_notMem {cs : List (BitVec 7 × Byte)} {m : Memory} {x : BitVec 7} (h : memWf m = true)
    (hx : ∀ c ∈ cs, c.1 ≠ x) : memRead (memStore cs m) x.toNat = memRead m x.toNat := by
  induction cs generalizing m with
  | nil => rfl
  | cons c cs ih =>
    have hc : x.toNat ≠ c.1.toNat := fun e => hx c (by simp) (BitVec.eq_of_toNat_eq e.symm)
    show memRead (memStore cs (memWrite m c.1.toNat c.2)) x.toNat = _
    rw [ih (memWf_memWrite _ h c.1.isLt) fun d hd => hx d (by simp [hd]), memRead_memWrite _ h, if_neg hc]

theorem devNewSample_wf {cfg : Params} {d : Device} (h : memWf d.reg = true) : memWf (devNewSample cfg d).reg = true :=
  memStore_wf h

theorem devComplete_wf {cfg : Params} {d : Device} (h : memWf d.reg = true) : memWf (devComplete cfg d).reg = true :=
  devStatusBit_wf h

theorem devTrigger_wf {cfg : Params} {d : Device} (h : memWf d.reg = true) :
    memWf (devTrigger cfg d).reg = true := by
  unfold devTrigger
  split
  · exact devComplete_wf h
  · exact devStatusBit_wf h

theorem devIdle_wf {cfg : Params} {was : DeviceMode} {d : Device} (h : memWf d.reg = true) :
    memWf (devIdle cfg was d).reg = true := by
  unfold devIdle
  split
  · exact devStatusBit_wf h
  · exact h

theorem devControl_wf {cfg : Params} {v : Byte} {d : Device} (h : memWf d.reg = true) :
    memWf (devControl cfg v d).reg = true := by
  have h1 : memWf (devConfigure cfg v d).reg = true := h
  simp only [devControl]
  split
  · exact devTrigger_wf h1
  · exact devStatusBit_wf h1
  · exact devIdle_wf h1

theorem devStore_wf {cfg : Params} {v : Byte} {d : Device} (h : memWf d.reg = true) :
    memWf (devStore cfg v d).reg = true := by
  have h1 : memWf (memWrite d.reg d.ptr.toNat v) = true := memWf_memWrite _ h d.ptr.isLt
  unfold devStore
  split
  · exact devControl_wf h1
  · split <;> exact h1

theorem devTx_wf {cfg : Params} {b : Byte} {d : Device} (h : memWf d.reg = true) :
    memWf (devTx cfg b d).reg = true := by
  unfold devTx
  split
  · split
    · exact h
    · exact devStore_wf h
  · exact h

theorem devDeliver_wf {cfg : Params} {d : Device} (h : memWf d.reg = true) : memWf (devDeliver cfg d).reg = true := by
  unfold devDeliver
  split
  · exact devNewSample_wf h
  · exact h

theorem devFreeStatus_wf {cfg : Params} {busy : Bool} {d : Device} (h : memWf d.reg = true) :
    memWf (devFreeStatus cfg busy d).reg = true := by
  unfold devFreeStatus
  split
  · exact devStatusBit_wf h
  · exact h

theorem devFreeSample_wf {cfg : Params} {ends : Bool} {d : Device} (h : memWf d.reg = true) :
    memWf (devFreeSample cfg ends d).reg = true := by
  cases ends with
  | true => exact devNewSample_wf h
  | false => exact h

theorem devEndFrame_wf {cfg : Params} {d : Device} (h : memWf d.reg = true) : memWf (devEndFrame cfg d).reg = true := by
  have h1 := devDeliver_wf (cfg := cfg) h
  unfold devEndFrame devFreeRun
  split
  · exact devFreeStatus_wf (devFreeSample_wf h1)
  · exact h1

theorem devObserve_wf {cfg : Params} {e : BusEvent} {d : Device} (h : memWf d.reg = true) :
    memWf (devObserve cfg e d).reg = true := by
  unfold devObserve
  split
  · exact h
  · exact devTx_wf h
  · exact devEndFrame_wf h
  · exact h

theorem devCountOne_wf {cfg : Params} {d : Device} (h : memWf d.reg = true) :
    memWf (devCountOne cfg d).reg = true := by
  unfold devCountOne
  split
  · exact devComplete_wf h
  · exact h

theorem devAfterRx_wf {cfg : Params} {d : Device} (h : memWf d.reg = true) :
    memWf (devAfterRx cfg d).reg = true := by
  unfold devAfterRx devCountDown
  split
  · exact devCountOne_wf h
  · exact h

theorem oracle_memWf {s : State} (h : memWf s.dev.reg = true) : memWf (oracle s).2.dev.reg = true := by
  unfold oracle
  split
  · exact devAfterRx_wf h
  · split <;> exact h

theorem emit_memWf {e : BusEvent} {s : State} (h : memWf s.dev.reg = true) : memWf (emit e s).dev.reg = true :=
  devObserve_wf h

theorem select_memWf {s : State} (h : memWf s.dev.reg = true) : memWf (select s).dev.reg = true :=
  emit_memWf (emit_memWf h)

theorem deselect_memWf {s : State} (h : memWf s.dev.reg = true) : memWf (deselect s).dev.reg = true :=
  emit_memWf (emit_memWf h)

theorem sendByte_memWf {b : Byte} {s : State} (h : memWf s.dev.reg = true) : memWf (sendByte b s).dev.reg = true :=
  emit_memWf h

theorem recvBytes_memWf {n : Nat} {s : State} (h : memWf s.dev.reg = true) :
    memWf (recvBytes n s).2.dev.reg = true := by
  induction n generalizing s with
  | zero => exact h
  | succ n ih => exact ih (emit_memWf (oracle_memWf h))

/-- A write frame keeps the canonical form of the device memory. -/
theorem sendFrame_memWf {w d : Byte} {s : State} (h : memWf s.dev.reg = true) :
    memWf (sendFrame w d s).dev.reg = true :=
  emit_memWf (deselect_memWf (sendByte_memWf (sendByte_memWf (select_memWf h))))

/-- A read frame keeps the canonical form of the device memory. -/
theorem readFrame_memWf {w : Byte} {n : Nat} {s : State} (h : memWf s.dev.reg = true) :
    memWf (readFrame w n s).2.dev.reg = true :=
  deselect_memWf (s := storeRx _ _) (recvBytes_memWf (sendByte_memWf (select_memWf h)))

end Sys2Proof.Machine
end

