-- ==== Sys2Proof/Laws/Ops.lean ====
section
/-! SUPPORT. What each shared operation does: the oracle's answers, the frames of HIST, the ends of a command, and which rule
a step follows. -/

namespace Sys2Proof.Machine

/-! ## A device of the oracle kind -/

/-- It keeps no state of its own from the block's events. -/
theorem devObserve_of_oracle {cfg : Params} {e : BusEvent} {d : Device} (h : d.kind = .oracle) :
    devObserve cfg e d = d := by
  cases d; cases h; rfl

theorem emit_dev_of_oracle {e : BusEvent} {s : State} (h : s.dev.kind = .oracle) : (emit e s).dev = s.dev :=
  devObserve_of_oracle h

theorem select_dev_of_oracle {s : State} (h : s.dev.kind = .oracle) : (select s).dev = s.dev := by
  have h1 : ({ emit .sel s with csn := false } : State).dev = s.dev := emit_dev_of_oracle h
  unfold select
  rw [emit_dev_of_oracle (by rw [h1]; exact h), h1]

theorem deselect_dev_of_oracle {s : State} (h : s.dev.kind = .oracle) : (deselect s).dev = s.dev := by
  have h1 : ({ emit .desel s with csn := true } : State).dev = s.dev := emit_dev_of_oracle h
  unfold deselect
  rw [emit_dev_of_oracle (by rw [h1]; exact h), h1]

theorem sendByte_dev_of_oracle {b : Byte} {s : State} (h : s.dev.kind = .oracle) : (sendByte b s).dev = s.dev :=
  emit_dev_of_oracle h

/-- A write frame leaves it as it was. -/
theorem sendFrame_dev_of_oracle {w d : Byte} {s : State} (h : s.dev.kind = .oracle) : (sendFrame w d s).dev = s.dev := by
  have h1 := select_dev_of_oracle h
  have h2 : (sendByte w (select s)).dev = s.dev := by rw [sendByte_dev_of_oracle (by rw [h1]; exact h), h1]
  have h3 : (sendByte d (sendByte w (select s))).dev = s.dev := by
    rw [sendByte_dev_of_oracle (by rw [h2]; exact h), h2]
  have h4 : (deselect (sendByte d (sendByte w (select s)))).dev = s.dev := by
    rw [deselect_dev_of_oracle (by rw [h3]; exact h), h3]
  unfold sendFrame
  rw [emit_dev_of_oracle (by rw [h4]; exact h), h4]

/-- A byte it is known to answer is the byte received. -/
theorem recvByte_of_answers {s : State} {b : Byte} {rest : List Byte} (h : Answers s [b] rest) :
    (recvByte s).1 = b ∧ (recvByte s).2.dev = { s.dev with answers := rest } ∧ (recvByte s).2.draws = s.draws := by
  obtain ⟨hk, ha⟩ := h
  have ho : oracle s = (b, { s with dev := { s.dev with answers := rest } }) := by
    simp only [oracle, hk, ha, List.singleton_append]
  refine ⟨?_, ?_, ?_⟩
  · show (oracle s).1 = b
    rw [ho]
  · show (emit (.rx (oracle s).1) (oracle s).2).dev = _
    rw [ho]
    exact emit_dev_of_oracle hk
  · show (oracle s).2.draws = s.draws
    rw [ho]

/-- Bytes it is known to answer are the bytes of a burst. -/
theorem recvBytes_of_answers {s : State} {bs rest : List Byte} (h : Answers s bs rest) :
    (recvBytes bs.length s).1 = bs ∧ (recvBytes bs.length s).2.dev = { s.dev with answers := rest } ∧
      (recvBytes bs.length s).2.draws = s.draws := by
  induction bs generalizing s with
  | nil =>
    have h1 : s.dev.answers = rest := h.2
    exact ⟨rfl, by simp [recvBytes, ← h1], rfl⟩
  | cons b bs ih =>
    obtain ⟨h1, h2, h3⟩ := recvByte_of_answers (s := s) (b := b) (rest := bs ++ rest) ⟨h.1, by simpa using h.2⟩
    obtain ⟨h4, h5, h6⟩ := ih (s := (recvByte s).2) ⟨by rw [h2]; exact h.1, by rw [h2]⟩
    exact ⟨by simp [recvBytes, h1, h4], by simp [recvBytes, h5, h2], h6.trans h3⟩

/-- A read frame's bytes are those the device is known to answer. -/
theorem readFrame_of_answers {w : Byte} {s : State} {bs rest : List Byte} (h : Answers s bs rest) :
    (readFrame w bs.length s).1 = bs ∧ (readFrame w bs.length s).2.dev = { s.dev with answers := rest } ∧
      (readFrame w bs.length s).2.draws = s.draws := by
  have h1 := select_dev_of_oracle h.1
  have h2 : (sendByte w (select s)).dev = s.dev := by rw [sendByte_dev_of_oracle (by rw [h1]; exact h.1), h1]
  obtain ⟨h4, h5, h6⟩ := recvBytes_of_answers (s := sendByte w (select s)) (bs := bs) (rest := rest)
    ⟨by rw [h2]; exact h.1, by rw [h2]; exact h.2⟩
  have h7 : (deselect (storeRx bs (recvBytes bs.length (sendByte w (select s))).2)).dev =
      (recvBytes bs.length (sendByte w (select s))).2.dev :=
    deselect_dev_of_oracle (s := storeRx _ _) (by simp only [storeRx_dev, h5, h2]; exact h.1)
  refine ⟨h4, ?_, ?_⟩
  · simp only [readFrame, h4]; rw [h7, h5, h2]
  · simp only [readFrame, deselect_draws, storeRx_draws]; rw [h6]; simp

/-! ## Frames as one update of the state -/

/-- A write frame changes CSN, SDO, HIST and the device, and nothing else. -/
theorem sendFrame_eq (w d : Byte) (s : State) :
    sendFrame w d s =
      { s with csn := true, sdo := d, hist := s.hist ++ writeEvents w d, dev := (sendFrame w d s).dev } := by
  ext1 <;> simp [writeEvents]

/-- SDO after a burst: RD_FILL, or as before when no byte is clocked in. -/
theorem recvBytes_sdo (n : Nat) (s : State) :
    (recvBytes n s).2.sdo = if n = 0 then s.sdo else s.cfg.rdFill := by
  induction n generalizing s with
  | zero => rfl
  | succ n ih => simp [recvBytes, ih]

theorem readFrame_sdo (w : Byte) (n : Nat) (s : State) :
    (readFrame w n s).2.sdo = if n = 0 then w else s.cfg.rdFill := by
  simp [readFrame, recvBytes_sdo]

/-- A read frame changes CSN, SDO, RXBUF, HIST, the device and the count of free values, and nothing else. -/
theorem readFrame_eq (w : Byte) (n : Nat) (s : State) :
    (readFrame w n s).2 =
      { s with csn := true, sdo := if n = 0 then w else s.cfg.rdFill, rxbuf := (readFrame w n s).1 ++ s.rxbuf.drop n,
               rxHigh := max s.rxHigh n, hist := s.hist ++ readEvents w (readFrame w n s).1,
               dev := (readFrame w n s).2.dev, draws := (readFrame w n s).2.draws } := by
  ext1 <;> simp [readEvents, readFrame_sdo]

/-- A single-byte write as one update of the state. -/
theorem busWrite_cases (a d : Byte) (s : State) :
    ∃ v, busWrite a d s =
        { s with csn := true, sdo := d, hist := s.hist ++ writeEvents (a &&& 0x7F#8) d, dev := v } ∧
      (s.dev.kind = .oracle → v = s.dev) :=
  ⟨_, sendFrame_eq (writeByte a) d s, sendFrame_dev_of_oracle⟩

/-- A burst of at least one byte as one update of the state. -/
theorem busRead_cases (a : Byte) {n : Nat} (hn : n ≠ 0) (s : State) :
    ∃ bs v k, bs.length = n ∧ busRead a n s =
      (bs, { s with csn := true, sdo := s.cfg.rdFill, rxbuf := bs ++ s.rxbuf.drop n, rxHigh := max s.rxHigh n,
                    hist := s.hist ++ readEvents (a ||| 0x80#8) bs, dev := v, draws := k }) := by
  refine ⟨(readFrame (readByte a) n s).1, (readFrame (readByte a) n s).2.dev, (readFrame (readByte a) n s).2.draws,
    by simp, ?_⟩
  have h := readFrame_eq (readByte a) n s
  rw [if_neg hn] at h
  exact Prod.ext rfl h

/-- A burst whose bytes the device is known to answer. -/
theorem busRead_of_answers (a : Byte) {s : State} {bs rest : List Byte} (hn : bs ≠ []) (h : Answers s bs rest) :
    busRead a bs.length s =
      (bs, { s with csn := true, sdo := s.cfg.rdFill, rxbuf := bs ++ s.rxbuf.drop bs.length,
                    rxHigh := max s.rxHigh bs.length, hist := s.hist ++ readEvents (a ||| 0x80#8) bs,
                    dev := { s.dev with answers := rest } }) := by
  obtain ⟨h1, h2, h3⟩ := readFrame_of_answers (w := readByte a) h
  have h4 := readFrame_eq (readByte a) bs.length s
  rw [if_neg (by simpa using hn), h1, h2, h3] at h4
  exact Prod.ext h1 h4

/-! ## The grammar of HIST -/

theorem busScan_append (len : Nat) (p : BusPhase) (es fs : List BusEvent) :
    busScan len p (es ++ fs) = (busScan len p es).bind fun q => busScan len q fs := by
  induction es generalizing p with
  | nil => rfl
  | cons e es ih =>
    simp only [List.cons_append, busScan]
    cases busNext len p e with
    | none => rfl
    | some q => exact ih q

/-- Complete frames followed by complete frames are complete frames. -/
theorem framesComplete_append {len : Nat} {es fs : List BusEvent} (h : framesComplete len es)
    (h' : framesComplete len fs) : framesComplete len (es ++ fs) := by
  unfold framesComplete at *
  rw [busScan_append, h]
  exact h'

theorem framesComplete_write {len : Nat} {w d : Byte} (h : w.getLsbD 7 = false) :
    framesComplete len (writeEvents w d) := by
  unfold framesComplete writeEvents
  simp only [busScan, busNext, h, Bool.false_eq_true, if_false]

/-- The data bytes of a read frame, while the receive buffer holds them. -/
theorem busScan_rx {len n : Nat} {bs : List Byte} (h : n + bs.length ≤ len) (fs : List BusEvent) :
    busScan len (.readData n) (bs.map .rx ++ fs) = busScan len (.readData (n + bs.length)) fs := by
  induction bs generalizing n with
  | nil => rfl
  | cons b bs ih =>
    simp only [List.length_cons] at h
    have hn : n < len := by omega
    simp only [List.map_cons, List.cons_append, busScan, busNext, hn, if_true]
    rw [ih (by omega), List.length_cons, Nat.add_assoc, Nat.add_comm 1]

theorem framesComplete_read {len : Nat} {w : Byte} {bs : List Byte} (h : w.getLsbD 7 = true) (hn : bs.length ≤ len) :
    framesComplete len (readEvents w bs) := by
  unfold framesComplete readEvents
  rw [List.append_assoc, busScan_append]
  simp only [busScan, busNext, h, if_true, Option.bind_some]
  rw [busScan_rx (by omega)]
  simp [busScan, busNext]

/-- A delay between polls stands between frames. -/
theorem framesComplete_delay (len : Nat) : framesComplete len [.dly .poll] := rfl

/-- The block's own bursts fit: of at most 26 bytes, whatever RXBUF_LEN. -/
theorem le_rxbufLen {n : Nat} (cfg : Params) (h : n ≤ 26) : n ≤ rxbufLen cfg := le_trans h (Nat.le_add_right 26 _)

theorem writeByte_bit7 (a : Byte) : (writeByte a).getLsbD 7 = false := by simp [writeByte]

theorem readByte_bit7 (a : Byte) : (readByte a).getLsbD 7 = true := by simp [readByte]

/-! ## The end of a command -/

/-- An abort of a command that is no step of a micro-program. -/
theorem raiseErr_of_atRest {e : ErrCause} {s : State} (h : AtRest s) :
    raiseErr e s = { s with err := errSet s.err e, busy := false } := by
  ext1 <;> simp [raiseErr, h.1, h.2, upcProg]

/-- An abort of a step of a micro-program. -/
theorem raiseErr_of_running {e : ErrCause} {s : State} (h : upcProg s.upc ≠ 0#2) :
    raiseErr e s = { s with err := errSet s.err e, upc := 0#5, busy := false, polling := false } := by
  ext1 <;> simp [raiseErr, h]

/-- A micro-operation never stops the machine, and a host-issued one ends in one of three ways. -/
theorem endCommand_cases {o : MicroOut} {t : State} (h : endCommand o = .next t) :
    (∃ s, o = .done s ∧ t = finish s) ∨ (∃ s, o = .again s ∧ t = { s with busy := true }) ∨
      ∃ e s, o = .raised e s ∧ t = raiseErr e s := by
  cases o with
  | done s => cases h; exact .inl ⟨s, rfl, rfl⟩
  | again s => cases h; exact .inr (.inl ⟨s, rfl, rfl⟩)
  | raised e s => cases h; exact .inr (.inr ⟨e, s, rfl, rfl⟩)

theorem toStep_cases {p : BitVec 2} {k : BitVec 3} {o : MicroOut} {t : State} (h : toStep p k o = .next t) :
    (∃ s, o = .done s ∧ t = { s with upc := upcOf p k }) ∨ o = .again t ∨
      ∃ e s, o = .raised e s ∧ t = raiseErr e s := by
  cases o with
  | done s => cases h; exact .inl ⟨s, rfl, rfl⟩
  | again s => cases h; exact .inr (.inl rfl)
  | raised e s => cases h; exact .inr (.inr ⟨e, s, rfl, rfl⟩)

/-! ## Which rule a step follows -/

/-- A step is an RST, the running command going on, the acceptance of a request, or idling. `h` is what the host does after
this step. -/
theorem step_cases (s : State) :
    (∃ h, s.host = .rst 0 :: h ∧ step s = .next (applyRst h s)) ∨
    (s.busy = true ∧ ∃ h, step s = runBusy { s with host := h }) ∨
    (s.busy = false ∧ ∃ r h, s.host = .present r :: h ∧ step s = accept r { s with host := h }) ∨
    (s.busy = false ∧ ∃ h, step s = .next { s with host := h }) := by
  unfold step
  split
  · rename_i h hh; exact .inl ⟨h, hh, rfl⟩
  · rename_i n h hh
    by_cases hb : s.busy = true
    · exact .inr (.inl ⟨hb, .rst n :: h, if_pos hb⟩)
    · exact .inr (.inr (.inr ⟨Bool.eq_false_iff.mpr hb, .rst n :: h, if_neg hb⟩))
  · rename_i r h hh
    by_cases hb : s.busy = true
    · exact .inr (.inl ⟨hb, s.host, if_pos hb⟩)
    · exact .inr (.inr (.inl ⟨Bool.eq_false_iff.mpr hb, r, h, hh, if_neg hb⟩))
  · by_cases hb : s.busy = true
    · exact .inr (.inl ⟨hb, s.host, if_pos hb⟩)
    · exact .inr (.inr (.inr ⟨Bool.eq_false_iff.mpr hb, s.host, if_neg hb⟩))

/-- How an accepted request ends. -/
theorem accept_cases (r : Request) (s : State) :
    (∃ i, decode (rxbufLen s.cfg) r = .ok i ∧ accept r s = exec i { s with busy := true }) ∨
      ((∃ e, decode (rxbufLen s.cfg) r = .error e) ∧ accept r s = .next (raiseErr .badCmd { s with busy := true })) := by
  unfold accept
  split
  · rename_i i h; exact .inl ⟨i, h, rfl⟩
  · rename_i e h; exact .inr ⟨⟨e, h⟩, rfl⟩

end Sys2Proof.Machine
end

