-- ==== Sys2Proof/Laws/Micro.lean ====
section
/-! SUPPORT. What each micro-operation that uses the bus can do, as one update of the state; the compensation and output
micro-operations are such an update by definition. -/

namespace Sys2Proof.Machine

/-- A device sees nothing of a delay. -/
@[simp] theorem devObserve_dly (cfg : Params) (k : DelayKind) (d : Device) : devObserve cfg (.dly k) d = d := by
  cases d with
  | mk kind => cases kind <;> rfl

/-- A list of one byte. -/
theorem single_of_length {bs : List Byte} (h : bs.length = 1) : ∃ b, bs = [b] := List.length_eq_one_iff.mp h

/-- The block once RDID has read the byte `b`: `v` and `k` are what the device and the count of free values have become
(R141). -/
def rdidState (b : Byte) (v : Device) (k : Nat) (s : State) : State :=
  { s with
    chipId := b, idSeen := true, csn := true, sdo := s.cfg.rdFill, rxbuf := b :: s.rxbuf.drop 1,
    rxHigh := max s.rxHigh 1, hist := s.hist ++ readEvents (s.cfg.addrId ||| 0x80#8) [b], dev := v, draws := k }

theorem microRdid_of_read {s : State} {b : Byte} {v : Device} {k : Nat}
    (h : busRead s.cfg.addrId 1 s =
      ([b], { s with csn := true, sdo := s.cfg.rdFill, rxbuf := [b] ++ s.rxbuf.drop 1, rxHigh := max s.rxHigh 1,
                     hist := s.hist ++ readEvents (s.cfg.addrId ||| 0x80#8) [b], dev := v, draws := k })) :
    microRdid s = if s.cfg.idStrict = true ∧ b ≠ 0x60#8 then .raised .idMismatch (rdidState b v k s)
      else .done (rdidState b v k s) := by
  simp only [microRdid, lenId, h, byteAt, List.getD_cons_zero, idExpected, Bool.and_eq_true, bne_iff_ne]
  rfl

/-- RDID (R141, R252). -/
theorem microRdid_cases (s : State) : ∃ b v k,
    microRdid s = if s.cfg.idStrict = true ∧ b ≠ 0x60#8 then .raised .idMismatch (rdidState b v k s)
      else .done (rdidState b v k s) := by
  obtain ⟨bs, v, k, hl, h⟩ := busRead_cases s.cfg.addrId (n := 1) (by decide) s
  obtain ⟨b, rfl⟩ := single_of_length hl
  exact ⟨b, v, k, microRdid_of_read h⟩

/-- RDID of a device known to answer `b`. -/
theorem microRdid_of_answers {s : State} {b : Byte} {rest : List Byte} (ha : Answers s [b] rest) :
    microRdid s =
      if s.cfg.idStrict = true ∧ b ≠ 0x60#8 then .raised .idMismatch (rdidState b { s.dev with answers := rest } s.draws s)
      else .done (rdidState b { s.dev with answers := rest } s.draws s) :=
  microRdid_of_read (busRead_of_answers s.cfg.addrId (by simp) ha)

/-- LDCALA, not yet loaded (R143). -/
theorem microLdcala_cases {s : State} (hs : s.calaValid = false) : ∃ A v k, A.length = 26 ∧
    microLdcala s = .done { s with
      cal := calAfterA s.cfg.h1Src A s.cal, calaValid := true, csn := true, sdo := s.cfg.rdFill,
      rxbuf := A ++ s.rxbuf.drop 26, rxHigh := max s.rxHigh 26,
      hist := s.hist ++ readEvents (s.cfg.addrCalA ||| 0x80#8) A, dev := v, draws := k } := by
  obtain ⟨A, v, k, hl, h⟩ := busRead_cases s.cfg.addrCalA (n := lenCalA) (by decide) s
  exact ⟨A, v, k, hl, by simp only [microLdcala, hs, h]; rfl⟩

/-- LDCALB, not yet loaded (R146). -/
theorem microLdcalb_cases {s : State} (hs : s.calbValid = false) : ∃ B v k, B.length = 8 ∧
    microLdcalb s = .done { s with
      cal := calAfterB s.cfg.h1Src B s.cal, calbValid := true, csn := true, sdo := s.cfg.rdFill,
      rxbuf := B ++ s.rxbuf.drop 8, rxHigh := max s.rxHigh 8,
      hist := s.hist ++ readEvents (s.cfg.addrCalB ||| 0x80#8) B, dev := v, draws := k } := by
  obtain ⟨B, v, k, hl, h⟩ := busRead_cases s.cfg.addrCalB (n := lenCalB) (by decide) s
  exact ⟨B, v, k, hl, by simp only [microLdcalb, hs, h]; rfl⟩

/-- RDRAW, initialized (R176, R177). -/
theorem microRdraw_cases {s : State} (hs : s.initDone = true) : ∃ D v k, D.length = 8 ∧
    microRdraw s = .done { s with
      adcP := unpackRaw20 (byteAt D 0) (byteAt D 1) (byteAt D 2),
      adcT := unpackRaw20 (byteAt D 3) (byteAt D 4) (byteAt D 5), adcH := unpackRaw16 (byteAt D 6) (byteAt D 7),
      cyc := 1#3, csn := true, sdo := s.cfg.rdFill, rxbuf := D ++ s.rxbuf.drop 8, rxHigh := max s.rxHigh 8,
      hist := s.hist ++ readEvents (s.cfg.addrData ||| 0x80#8) D, dev := v, draws := k } := by
  obtain ⟨D, v, k, hl, h⟩ := busRead_cases s.cfg.addrData (n := lenData) (by decide) s
  exact ⟨D, v, k, hl, by simp only [microRdraw, hs, h, if_true]; rfl⟩

/-- RDRAW, initialized, of a device known to answer `D`. -/
theorem microRdraw_of_answers {s : State} {D rest : List Byte} (hs : s.initDone = true) (hl : D.length = 8)
    (ha : Answers s D rest) :
    microRdraw s = .done { s with
      adcP := unpackRaw20 (byteAt D 0) (byteAt D 1) (byteAt D 2),
      adcT := unpackRaw20 (byteAt D 3) (byteAt D 4) (byteAt D 5), adcH := unpackRaw16 (byteAt D 6) (byteAt D 7),
      cyc := 1#3, csn := true, sdo := s.cfg.rdFill, rxbuf := D ++ s.rxbuf.drop 8, rxHigh := max s.rxHigh 8,
      hist := s.hist ++ readEvents (s.cfg.addrData ||| 0x80#8) D, dev := { s.dev with answers := rest } } := by
  have h := busRead_of_answers s.cfg.addrData (by rintro rfl; simp at hl) ha
  rw [hl] at h
  simp only [microRdraw, hs, lenData, h, if_true]

/-- One iteration of the poll loop after its status byte `b`: `v` and `k` are what the device and the count of free values
have become (R174, R253). -/
def pollOutcome (b : Byte) (v : Device) (k : Nat) (s : State) : MicroOut :=
  let r : State := { s with
    pollCnt := if s.cfg.pollLimit.isSome then s.pollCnt + 1 else s.pollCnt, csn := true, sdo := s.cfg.rdFill,
    rxbuf := b :: s.rxbuf.drop 1, rxHigh := max s.rxHigh 1,
    hist := s.hist ++ readEvents (s.cfg.addrStatus ||| 0x80#8) [b], dev := v, draws := k }
  if b.getLsbD 3 then
    if pollExhausted r then .raised .pollTimeout r
    else .again { r with hist := r.hist ++ [.dly .poll], polling := true }
  else .done { r with polling := false }

theorem microPollOnce_of_read {s : State} {b : Byte} {v : Device} {k : Nat}
    (h : busRead s.cfg.addrStatus 1 s =
      ([b], { s with csn := true, sdo := s.cfg.rdFill, rxbuf := [b] ++ s.rxbuf.drop 1, rxHigh := max s.rxHigh 1,
                     hist := s.hist ++ readEvents (s.cfg.addrStatus ||| 0x80#8) [b], dev := v, draws := k })) :
    microPollOnce s = pollOutcome b v k s := by
  simp only [microPollOnce, lenStatus, h, byteAt, List.getD_cons_zero, statusBusy, pollOutcome, emit, countPoll,
    devObserve_dly]
  rfl

/-- One iteration of the poll loop. -/
theorem microPollOnce_cases (s : State) : ∃ b v k, microPollOnce s = pollOutcome b v k s := by
  obtain ⟨bs, v, k, hl, h⟩ := busRead_cases s.cfg.addrStatus (n := 1) (by decide) s
  obtain ⟨b, rfl⟩ := single_of_length hl
  exact ⟨b, v, k, microPollOnce_of_read h⟩

/-- One iteration of the poll loop, the device known to answer `b`. -/
theorem microPollOnce_of_answers {s : State} {b : Byte} {rest : List Byte} (ha : Answers s [b] rest) :
    microPollOnce s = pollOutcome b { s.dev with answers := rest } s.draws s :=
  microPollOnce_of_read (busRead_of_answers s.cfg.addrStatus (by simp) ha)

/-- POLL from its start, initialized. -/
theorem microPoll_of_done {s : State} (hs : s.initDone = true) :
    microPoll s = microPollOnce { s with pollCnt := 0 } := by
  simp only [microPoll, hs, if_true]

end Sys2Proof.Machine
end

