-- ==== Sys2Proof/Laws/Device.lean ====
section
/-! SUPPORT. What a frame does to a reference device (spec 10_state.md R45 to R48, 20_memory.md R66 to R70, R74). -/

namespace Sys2Proof.Machine

/-! ## What the device's operations leave in each field -/

@[simp] theorem devStatusBit_kind (cfg : Params) (on : Bool) (d : Device) : (devStatusBit cfg on d).kind = d.kind := rfl
@[simp] theorem devStatusBit_answers (cfg : Params) (on : Bool) (d : Device) : (devStatusBit cfg on d).answers = d.answers := rfl
@[simp] theorem devStatusBit_samples (cfg : Params) (on : Bool) (d : Device) : (devStatusBit cfg on d).samples = d.samples := rfl
@[simp] theorem devStatusBit_ptr (cfg : Params) (on : Bool) (d : Device) : (devStatusBit cfg on d).ptr = d.ptr := rfl
@[simp] theorem devStatusBit_rw (cfg : Params) (on : Bool) (d : Device) : (devStatusBit cfg on d).rw = d.rw := rfl
@[simp] theorem devStatusBit_addressed (cfg : Params) (on : Bool) (d : Device) : (devStatusBit cfg on d).addressed = d.addressed := rfl
@[simp] theorem devStatusBit_conv (cfg : Params) (on : Bool) (d : Device) : (devStatusBit cfg on d).conv = d.conv := rfl
@[simp] theorem devStatusBit_convLen (cfg : Params) (on : Bool) (d : Device) : (devStatusBit cfg on d).convLen = d.convLen := rfl
@[simp] theorem devStatusBit_stuck (cfg : Params) (on : Bool) (d : Device) : (devStatusBit cfg on d).stuck = d.stuck := rfl
@[simp] theorem devStatusBit_sampleDue (cfg : Params) (on : Bool) (d : Device) : (devStatusBit cfg on d).sampleDue = d.sampleDue := rfl
@[simp] theorem devStatusBit_picks (cfg : Params) (on : Bool) (d : Device) : (devStatusBit cfg on d).picks = d.picks := rfl
@[simp] theorem devStatusBit_opMode (cfg : Params) (on : Bool) (d : Device) : (devStatusBit cfg on d).opMode = d.opMode := rfl
@[simp] theorem devStatusBit_pending (cfg : Params) (on : Bool) (d : Device) : (devStatusBit cfg on d).pending = d.pending := rfl
@[simp] theorem devStatusBit_active (cfg : Params) (on : Bool) (d : Device) : (devStatusBit cfg on d).active = d.active := rfl

@[simp] theorem devNewSample_kind (cfg : Params) (d : Device) : (devNewSample cfg d).kind = d.kind := rfl
@[simp] theorem devNewSample_answers (cfg : Params) (d : Device) : (devNewSample cfg d).answers = d.answers := rfl
@[simp] theorem devNewSample_ptr (cfg : Params) (d : Device) : (devNewSample cfg d).ptr = d.ptr := rfl
@[simp] theorem devNewSample_rw (cfg : Params) (d : Device) : (devNewSample cfg d).rw = d.rw := rfl
@[simp] theorem devNewSample_addressed (cfg : Params) (d : Device) : (devNewSample cfg d).addressed = d.addressed := rfl
@[simp] theorem devNewSample_conv (cfg : Params) (d : Device) : (devNewSample cfg d).conv = d.conv := rfl
@[simp] theorem devNewSample_convLen (cfg : Params) (d : Device) : (devNewSample cfg d).convLen = d.convLen := rfl
@[simp] theorem devNewSample_stuck (cfg : Params) (d : Device) : (devNewSample cfg d).stuck = d.stuck := rfl
@[simp] theorem devNewSample_opMode (cfg : Params) (d : Device) : (devNewSample cfg d).opMode = d.opMode := rfl
@[simp] theorem devNewSample_pending (cfg : Params) (d : Device) : (devNewSample cfg d).pending = d.pending := rfl
@[simp] theorem devNewSample_active (cfg : Params) (d : Device) : (devNewSample cfg d).active = d.active := rfl

@[simp] theorem devNewSample_samples (cfg : Params) (d : Device) : (devNewSample cfg d).samples = d.samples.tail := rfl
@[simp] theorem devNewSample_sampleDue (cfg : Params) (d : Device) : (devNewSample cfg d).sampleDue = false := rfl

@[simp] theorem devComplete_kind (cfg : Params) (d : Device) : (devComplete cfg d).kind = d.kind := rfl
@[simp] theorem devComplete_answers (cfg : Params) (d : Device) : (devComplete cfg d).answers = d.answers := rfl
@[simp] theorem devComplete_samples (cfg : Params) (d : Device) : (devComplete cfg d).samples = d.samples := rfl
@[simp] theorem devComplete_ptr (cfg : Params) (d : Device) : (devComplete cfg d).ptr = d.ptr := rfl
@[simp] theorem devComplete_rw (cfg : Params) (d : Device) : (devComplete cfg d).rw = d.rw := rfl
@[simp] theorem devComplete_addressed (cfg : Params) (d : Device) : (devComplete cfg d).addressed = d.addressed := rfl
@[simp] theorem devComplete_convLen (cfg : Params) (d : Device) : (devComplete cfg d).convLen = d.convLen := rfl
@[simp] theorem devComplete_stuck (cfg : Params) (d : Device) : (devComplete cfg d).stuck = d.stuck := rfl
@[simp] theorem devComplete_picks (cfg : Params) (d : Device) : (devComplete cfg d).picks = d.picks := rfl
@[simp] theorem devComplete_pending (cfg : Params) (d : Device) : (devComplete cfg d).pending = d.pending := rfl
@[simp] theorem devComplete_active (cfg : Params) (d : Device) : (devComplete cfg d).active = d.active := rfl

@[simp] theorem devComplete_conv (cfg : Params) (d : Device) : (devComplete cfg d).conv = 0 := rfl
@[simp] theorem devComplete_sampleDue (cfg : Params) (d : Device) : (devComplete cfg d).sampleDue = true := rfl
@[simp] theorem devComplete_opMode (cfg : Params) (d : Device) :
    (devComplete cfg d).opMode = if d.opMode = .forced then .sleep else d.opMode := rfl

@[simp] theorem devFreeStatus_kind (cfg : Params) (b : Bool) (d : Device) : (devFreeStatus cfg b d).kind = d.kind := by
  unfold devFreeStatus; split <;> rfl
@[simp] theorem devFreeStatus_answers (cfg : Params) (b : Bool) (d : Device) : (devFreeStatus cfg b d).answers = d.answers := by
  unfold devFreeStatus; split <;> rfl
@[simp] theorem devFreeStatus_samples (cfg : Params) (b : Bool) (d : Device) : (devFreeStatus cfg b d).samples = d.samples := by
  unfold devFreeStatus; split <;> rfl
@[simp] theorem devFreeStatus_ptr (cfg : Params) (b : Bool) (d : Device) : (devFreeStatus cfg b d).ptr = d.ptr := by
  unfold devFreeStatus; split <;> rfl
@[simp] theorem devFreeStatus_rw (cfg : Params) (b : Bool) (d : Device) : (devFreeStatus cfg b d).rw = d.rw := by
  unfold devFreeStatus; split <;> rfl
@[simp] theorem devFreeStatus_addressed (cfg : Params) (b : Bool) (d : Device) : (devFreeStatus cfg b d).addressed = d.addressed := by
  unfold devFreeStatus; split <;> rfl
@[simp] theorem devFreeStatus_conv (cfg : Params) (b : Bool) (d : Device) : (devFreeStatus cfg b d).conv = d.conv := by
  unfold devFreeStatus; split <;> rfl
@[simp] theorem devFreeStatus_convLen (cfg : Params) (b : Bool) (d : Device) : (devFreeStatus cfg b d).convLen = d.convLen := by
  unfold devFreeStatus; split <;> rfl
@[simp] theorem devFreeStatus_stuck (cfg : Params) (b : Bool) (d : Device) : (devFreeStatus cfg b d).stuck = d.stuck := by
  unfold devFreeStatus; split <;> rfl
@[simp] theorem devFreeStatus_sampleDue (cfg : Params) (b : Bool) (d : Device) : (devFreeStatus cfg b d).sampleDue = d.sampleDue := by
  unfold devFreeStatus; split <;> rfl
@[simp] theorem devFreeStatus_picks (cfg : Params) (b : Bool) (d : Device) : (devFreeStatus cfg b d).picks = d.picks := by
  unfold devFreeStatus; split <;> rfl
@[simp] theorem devFreeStatus_opMode (cfg : Params) (b : Bool) (d : Device) : (devFreeStatus cfg b d).opMode = d.opMode := by
  unfold devFreeStatus; split <;> rfl
@[simp] theorem devFreeStatus_pending (cfg : Params) (b : Bool) (d : Device) : (devFreeStatus cfg b d).pending = d.pending := by
  unfold devFreeStatus; split <;> rfl
@[simp] theorem devFreeStatus_active (cfg : Params) (b : Bool) (d : Device) : (devFreeStatus cfg b d).active = d.active := by
  unfold devFreeStatus; split <;> rfl

@[simp] theorem devDeliver_kind (cfg : Params) (d : Device) : (devDeliver cfg d).kind = d.kind := by
  unfold devDeliver; split <;> rfl
@[simp] theorem devDeliver_answers (cfg : Params) (d : Device) : (devDeliver cfg d).answers = d.answers := by
  unfold devDeliver; split <;> rfl
@[simp] theorem devDeliver_ptr (cfg : Params) (d : Device) : (devDeliver cfg d).ptr = d.ptr := by
  unfold devDeliver; split <;> rfl
@[simp] theorem devDeliver_rw (cfg : Params) (d : Device) : (devDeliver cfg d).rw = d.rw := by
  unfold devDeliver; split <;> rfl
@[simp] theorem devDeliver_addressed (cfg : Params) (d : Device) : (devDeliver cfg d).addressed = d.addressed := by
  unfold devDeliver; split <;> rfl
@[simp] theorem devDeliver_conv (cfg : Params) (d : Device) : (devDeliver cfg d).conv = d.conv := by
  unfold devDeliver; split <;> rfl
@[simp] theorem devDeliver_convLen (cfg : Params) (d : Device) : (devDeliver cfg d).convLen = d.convLen := by
  unfold devDeliver; split <;> rfl
@[simp] theorem devDeliver_stuck (cfg : Params) (d : Device) : (devDeliver cfg d).stuck = d.stuck := by
  unfold devDeliver; split <;> rfl
@[simp] theorem devDeliver_opMode (cfg : Params) (d : Device) : (devDeliver cfg d).opMode = d.opMode := by
  unfold devDeliver; split <;> rfl
@[simp] theorem devDeliver_pending (cfg : Params) (d : Device) : (devDeliver cfg d).pending = d.pending := by
  unfold devDeliver; split <;> rfl
@[simp] theorem devDeliver_active (cfg : Params) (d : Device) : (devDeliver cfg d).active = d.active := by
  unfold devDeliver; split <;> rfl

@[simp] theorem devDeliver_sampleDue (cfg : Params) (d : Device) : (devDeliver cfg d).sampleDue = false := by
  unfold devDeliver
  split
  · rfl
  · exact Bool.eq_false_iff.mpr ‹_›

@[simp] theorem devFreeSample_kind (cfg : Params) (b : Bool) (d : Device) : (devFreeSample cfg b d).kind = d.kind := rfl
@[simp] theorem devFreeSample_answers (cfg : Params) (b : Bool) (d : Device) : (devFreeSample cfg b d).answers = d.answers := rfl
@[simp] theorem devFreeSample_ptr (cfg : Params) (b : Bool) (d : Device) : (devFreeSample cfg b d).ptr = d.ptr := rfl
@[simp] theorem devFreeSample_rw (cfg : Params) (b : Bool) (d : Device) : (devFreeSample cfg b d).rw = d.rw := rfl
@[simp] theorem devFreeSample_addressed (cfg : Params) (b : Bool) (d : Device) : (devFreeSample cfg b d).addressed = d.addressed := rfl
@[simp] theorem devFreeSample_conv (cfg : Params) (b : Bool) (d : Device) : (devFreeSample cfg b d).conv = d.conv := rfl
@[simp] theorem devFreeSample_convLen (cfg : Params) (b : Bool) (d : Device) : (devFreeSample cfg b d).convLen = d.convLen := rfl
@[simp] theorem devFreeSample_stuck (cfg : Params) (b : Bool) (d : Device) : (devFreeSample cfg b d).stuck = d.stuck := rfl
@[simp] theorem devFreeSample_opMode (cfg : Params) (b : Bool) (d : Device) : (devFreeSample cfg b d).opMode = d.opMode := rfl
@[simp] theorem devFreeSample_pending (cfg : Params) (b : Bool) (d : Device) : (devFreeSample cfg b d).pending = d.pending := rfl
@[simp] theorem devFreeSample_active (cfg : Params) (b : Bool) (d : Device) : (devFreeSample cfg b d).active = d.active := rfl

@[simp] theorem devFreeRun_kind (cfg : Params) (d : Device) : (devFreeRun cfg d).kind = d.kind := by
  unfold devFreeRun; split <;> simp
@[simp] theorem devFreeRun_answers (cfg : Params) (d : Device) : (devFreeRun cfg d).answers = d.answers := by
  unfold devFreeRun; split <;> simp
@[simp] theorem devFreeRun_ptr (cfg : Params) (d : Device) : (devFreeRun cfg d).ptr = d.ptr := by
  unfold devFreeRun; split <;> simp
@[simp] theorem devFreeRun_rw (cfg : Params) (d : Device) : (devFreeRun cfg d).rw = d.rw := by
  unfold devFreeRun; split <;> simp
@[simp] theorem devFreeRun_addressed (cfg : Params) (d : Device) : (devFreeRun cfg d).addressed = d.addressed := by
  unfold devFreeRun; split <;> simp
@[simp] theorem devFreeRun_conv (cfg : Params) (d : Device) : (devFreeRun cfg d).conv = d.conv := by
  unfold devFreeRun; split <;> simp
@[simp] theorem devFreeRun_convLen (cfg : Params) (d : Device) : (devFreeRun cfg d).convLen = d.convLen := by
  unfold devFreeRun; split <;> simp
@[simp] theorem devFreeRun_stuck (cfg : Params) (d : Device) : (devFreeRun cfg d).stuck = d.stuck := by
  unfold devFreeRun; split <;> simp
@[simp] theorem devFreeRun_opMode (cfg : Params) (d : Device) : (devFreeRun cfg d).opMode = d.opMode := by
  unfold devFreeRun; split <;> simp
@[simp] theorem devFreeRun_pending (cfg : Params) (d : Device) : (devFreeRun cfg d).pending = d.pending := by
  unfold devFreeRun; split <;> simp
@[simp] theorem devFreeRun_active (cfg : Params) (d : Device) : (devFreeRun cfg d).active = d.active := by
  unfold devFreeRun; split <;> simp

theorem devFreeRun_sampleDue {cfg : Params} {d : Device} (h : d.sampleDue = false) :
    (devFreeRun cfg d).sampleDue = false := by
  have h1 : ∀ b, (devFreeSample cfg b d).sampleDue = false := fun _ => h
  unfold devFreeRun
  split
  · rw [devFreeStatus_sampleDue, h1]
  · exact h

/-- A device that does not run freely keeps all at the end of a frame but a sample that is due. -/
theorem devFreeRun_of_quiet {cfg : Params} {d : Device} (h : d.opMode ≠ .normal ∨ d.stuck = true) :
    devFreeRun cfg d = d := by
  unfold devFreeRun
  split
  · rename_i hc
    rcases h with h | h
    · exact absurd hc.1 h
    · exact absurd h (by simp [hc.2])
  · rfl

@[simp] theorem devEndFrame_kind (cfg : Params) (d : Device) : (devEndFrame cfg d).kind = d.kind := by
  simp [devEndFrame]
@[simp] theorem devEndFrame_answers (cfg : Params) (d : Device) : (devEndFrame cfg d).answers = d.answers := by
  simp [devEndFrame]
@[simp] theorem devEndFrame_ptr (cfg : Params) (d : Device) : (devEndFrame cfg d).ptr = d.ptr := by
  simp [devEndFrame]
@[simp] theorem devEndFrame_rw (cfg : Params) (d : Device) : (devEndFrame cfg d).rw = d.rw := by
  simp [devEndFrame]
@[simp] theorem devEndFrame_addressed (cfg : Params) (d : Device) : (devEndFrame cfg d).addressed = d.addressed := by
  simp [devEndFrame]
@[simp] theorem devEndFrame_conv (cfg : Params) (d : Device) : (devEndFrame cfg d).conv = d.conv := by
  simp [devEndFrame]
@[simp] theorem devEndFrame_convLen (cfg : Params) (d : Device) : (devEndFrame cfg d).convLen = d.convLen := by
  simp [devEndFrame]
@[simp] theorem devEndFrame_stuck (cfg : Params) (d : Device) : (devEndFrame cfg d).stuck = d.stuck := by
  simp [devEndFrame]
@[simp] theorem devEndFrame_opMode (cfg : Params) (d : Device) : (devEndFrame cfg d).opMode = d.opMode := by
  simp [devEndFrame]
@[simp] theorem devEndFrame_pending (cfg : Params) (d : Device) : (devEndFrame cfg d).pending = d.pending := by
  simp [devEndFrame]
@[simp] theorem devEndFrame_active (cfg : Params) (d : Device) : (devEndFrame cfg d).active = d.active := by
  simp [devEndFrame]

/-- No sample is left over from a frame. -/
@[simp] theorem devEndFrame_sampleDue (cfg : Params) (d : Device) : (devEndFrame cfg d).sampleDue = false :=
  devFreeRun_sampleDue (devDeliver_sampleDue cfg d)

/-- The end of a frame does nothing to a device that neither runs freely nor has a sample to store. -/
theorem devEndFrame_of_quiet {cfg : Params} {d : Device} (hs : d.sampleDue = false)
    (h : d.opMode ≠ .normal ∨ d.stuck = true) : devEndFrame cfg d = d := by
  have hd : devDeliver cfg d = d := by simp [devDeliver, hs]
  rw [devEndFrame, hd, devFreeRun_of_quiet h]

/-! ## The device's own writes -/

/-- A change of the status bit leaves every other location as it was. -/
theorem memRead_devStatusBit {cfg : Params} {on : Bool} {d : Device} {x : BitVec 7} (h : memWf d.reg = true)
    (hx : x ≠ wireAddr cfg.addrStatus) : memRead (devStatusBit cfg on d).reg x.toNat = memRead d.reg x.toNat := by
  have hn : x.toNat ≠ (wireAddr cfg.addrStatus).toNat := fun e => hx (BitVec.eq_of_toNat_eq e)
  show memRead (memWrite d.reg _ _) x.toNat = _
  rw [memRead_memWrite _ h, if_neg hn]

/-- The status bit reads as it was set. -/
theorem statusBusy_devStatusBit {cfg : Params} {on : Bool} {d : Device} (h : memWf d.reg = true) :
    statusBusy (memRead (devStatusBit cfg on d).reg (wireAddr cfg.addrStatus).toNat) = on := by
  show statusBusy (memRead (memWrite d.reg _ _) _) = on
  rw [memRead_memWrite _ h, if_pos rfl]
  cases on <;> simp [statusBusy]

theorem memRead_devNewSample {cfg : Params} {d : Device} {x : BitVec 7} (h : memWf d.reg = true)
    (hx : x ∉ devDataRegion cfg) : memRead (devNewSample cfg d).reg x.toNat = memRead d.reg x.toNat :=
  memRead_memStore_of_notMem h fun _ hc e => hx (e ▸ (List.of_mem_zip hc).1)

theorem memRead_devDeliver {cfg : Params} {d : Device} {x : BitVec 7} (h : memWf d.reg = true)
    (hx : x ∉ devDataRegion cfg) : memRead (devDeliver cfg d).reg x.toNat = memRead d.reg x.toNat := by
  unfold devDeliver
  split
  · exact memRead_devNewSample h hx
  · rfl

theorem memRead_devFreeStatus {cfg : Params} {b : Bool} {d : Device} {x : BitVec 7} (h : memWf d.reg = true)
    (hx : x ≠ wireAddr cfg.addrStatus) : memRead (devFreeStatus cfg b d).reg x.toNat = memRead d.reg x.toNat := by
  unfold devFreeStatus
  split
  · exact memRead_devStatusBit h hx
  · rfl

theorem memRead_devFreeSample {cfg : Params} {b : Bool} {d : Device} {x : BitVec 7} (h : memWf d.reg = true)
    (hx : x ∉ devDataRegion cfg) : memRead (devFreeSample cfg b d).reg x.toNat = memRead d.reg x.toNat := by
  cases b with
  | true => exact memRead_devNewSample h hx
  | false => rfl

/-- Outside its own locations the device writes nothing at the end of a frame. -/
theorem memRead_devEndFrame {cfg : Params} {d : Device} {x : BitVec 7} (h : memWf d.reg = true) (hx : x ∉ devOwn cfg) :
    memRead (devEndFrame cfg d).reg x.toNat = memRead d.reg x.toNat := by
  have hs : x ≠ wireAddr cfg.addrStatus := fun e => hx (by simp [devOwn, e])
  have hd : x ∉ devDataRegion cfg := fun e => hx (by simp [devOwn, e])
  have w1 := devDeliver_wf (cfg := cfg) h
  rw [← memRead_devDeliver h hd]
  unfold devEndFrame devFreeRun
  split
  · rw [memRead_devFreeStatus (devFreeSample_wf w1) hs, memRead_devFreeSample w1 hd]
  · rfl

/-! ## Single events -/

theorem devObserve_sel {cfg : Params} {d : Device} (h : d.kind = .reference) :
    devObserve cfg .sel d = { d with addressed := false } := by
  cases d; cases h; rfl

theorem devObserve_tx {cfg : Params} {b : Byte} {d : Device} (h : d.kind = .reference) :
    devObserve cfg (.tx b) d = devTx cfg b d := by
  cases d; cases h; rfl

theorem devObserve_desel {cfg : Params} {d : Device} (h : d.kind = .reference) :
    devObserve cfg .desel d = devEndFrame cfg d := by
  cases d; cases h; rfl

@[simp] theorem devObserve_rx (cfg : Params) (b : Byte) (d : Device) : devObserve cfg (.rx b) d = d := by
  cases d with
  | mk kind => cases kind <;> rfl

/-- The device once the address byte of a frame has arrived. -/
theorem dev_after_address {w : Byte} {s : State} (h : s.dev.kind = .reference) :
    (sendByte w (select s)).dev = { s.dev with ptr := wireAddr w, rw := w.getLsbD 7, addressed := true } := by
  simp only [sendByte, select, emit, devObserve_dly]
  rw [devObserve_sel h, devObserve_tx (by exact h)]
  rfl

/-- A byte is answered from the location the pointer names. -/
theorem oracle_of_reference {s : State} (h : s.dev.kind = .reference) :
    oracle s = (memRead s.dev.reg s.dev.ptr.toNat, { s with dev := devAfterRx s.cfg s.dev }) := by
  unfold oracle
  rw [h]

/-! ## Frames -/

/-- The end of a frame, as the device sees it. -/
theorem deselect_of_reference {s : State} (h : s.dev.kind = .reference) :
    (deselect s).dev = devEndFrame s.cfg s.dev := by
  simp only [deselect, emit, devObserve_dly]
  exact devObserve_desel h

theorem devStore_kind (cfg : Params) (v : Byte) (d : Device) : (devStore cfg v d).kind = d.kind := by
  unfold devStore
  split
  · simp only [devControl]
    split
    · unfold devTrigger; split <;> rfl
    · rfl
    · unfold devIdle; split <;> rfl
  · split <;> rfl

/-- A write frame stores its byte, and then the frame ends. -/
theorem sendFrame_of_reference {w d : Byte} {s : State} (h : s.dev.kind = .reference) (hw : w.getLsbD 7 = false) :
    (sendFrame w d s).dev =
      devEndFrame s.cfg (devStore s.cfg d { s.dev with ptr := wireAddr w, rw := false, addressed := true }) := by
  have h1 := dev_after_address (w := w) h
  rw [hw] at h1
  have h2 : (sendByte d (sendByte w (select s))).dev =
      devStore s.cfg d { s.dev with ptr := wireAddr w, rw := false, addressed := true } := by
    show devObserve s.cfg (.tx d) (sendByte w (select s)).dev = _
    rw [h1, devObserve_tx (by exact h)]
    rfl
  have h3 : (sendByte d (sendByte w (select s))).dev.kind = .reference := by rw [h2, devStore_kind]; exact h
  have hc : (sendByte d (sendByte w (select s))).cfg = s.cfg := by simp
  have h4 := deselect_of_reference h3
  rw [h2, hc] at h4
  rw [← h4, sendFrame, emit_dev, devObserve_dly]

/-- `wireAddr` does not see bit 7. -/
theorem wireAddr_readByte (a : Byte) : wireAddr (readByte a) = wireAddr a := by
  simp only [wireAddr, readByte]; revert a; decide

theorem wireAddr_writeByte (a : Byte) : wireAddr (writeByte a) = wireAddr a := by
  simp only [wireAddr, writeByte]; revert a; decide

/-- The bytes a reference device answers one after the other, and what it is then (R74). -/
def devBurst (cfg : Params) : Nat → Device → List Byte × Device
  | 0, d => ([], d)
  | n + 1, d =>
    let r := devBurst cfg n (devAfterRx cfg d)
    (memRead d.reg d.ptr.toNat :: r.1, r.2)

theorem devAfterRx_kind (cfg : Params) (d : Device) : (devAfterRx cfg d).kind = d.kind := by
  show (devCountDown cfg d).kind = d.kind
  unfold devCountDown
  split
  · unfold devCountOne; split <;> rfl
  · rfl

theorem devBurst_kind (cfg : Params) (n : Nat) (d : Device) : (devBurst cfg n d).2.kind = d.kind := by
  induction n generalizing d with
  | zero => rfl
  | succ n ih => exact (ih _).trans (devAfterRx_kind cfg d)

theorem recvBytes_of_reference (n : Nat) {s : State} (h : s.dev.kind = .reference) :
    (recvBytes n s).1 = (devBurst s.cfg n s.dev).1 ∧ (recvBytes n s).2.dev = (devBurst s.cfg n s.dev).2 ∧
      (recvBytes n s).2.draws = s.draws := by
  induction n generalizing s with
  | zero => exact ⟨rfl, rfl, rfl⟩
  | succ n ih =>
    have ho := oracle_of_reference h
    have h1 : (recvByte s).1 = memRead s.dev.reg s.dev.ptr.toNat := congrArg Prod.fst ho
    have h2 : (recvByte s).2.dev = devAfterRx s.cfg s.dev := by
      show devObserve _ (.rx _) (oracle s).2.dev = _
      rw [devObserve_rx, ho]
    have h3 : (recvByte s).2.draws = s.draws := by
      show (oracle s).2.draws = _
      rw [ho]
    have h4 : (recvByte s).2.cfg = s.cfg := by simp
    obtain ⟨a, b, c⟩ := ih (s := (recvByte s).2) (by rw [h2, devAfterRx_kind]; exact h)
    rw [h2, h4] at a b
    exact ⟨by simp only [recvBytes, h1, a, devBurst], b, c.trans h3⟩

/-- A burst of a reference device: its bytes from the location its address names on, and then the frame ends. -/
theorem busRead_of_reference (a : Byte) {n : Nat} (hn : n ≠ 0) {s : State} (h : s.dev.kind = .reference) :
    let r := devBurst s.cfg n { s.dev with ptr := wireAddr a, rw := true, addressed := true }
    busRead a n s =
      (r.1, { s with csn := true, sdo := s.cfg.rdFill, rxbuf := r.1 ++ s.rxbuf.drop n, rxHigh := max s.rxHigh n,
                     hist := s.hist ++ readEvents (a ||| 0x80#8) r.1, dev := devEndFrame s.cfg r.2 }) := by
  intro r
  have h1 := dev_after_address (w := readByte a) h
  rw [readByte_bit7, wireAddr_readByte] at h1
  obtain ⟨b1, b2, b3⟩ := recvBytes_of_reference n (s := sendByte (readByte a) (select s)) (by rw [h1]; exact h)
  have hc : (sendByte (readByte a) (select s)).cfg = s.cfg := by simp
  rw [h1, hc] at b1 b2
  change _ = r.1 at b1
  change _ = r.2 at b2
  have hk : (storeRx r.1 (recvBytes n (sendByte (readByte a) (select s))).2).dev.kind = .reference := by
    rw [storeRx_dev, b2]
    exact (devBurst_kind ..).trans h
  have h4 := readFrame_eq (readByte a) n s
  have c1 : (readFrame (readByte a) n s).1 = r.1 := b1
  have c2 : (readFrame (readByte a) n s).2.dev = devEndFrame s.cfg r.2 := by
    have hd := deselect_of_reference hk
    have hc : (storeRx r.1 (recvBytes n (sendByte (readByte a) (select s))).2).cfg = s.cfg := by simp
    rw [hc, storeRx_dev, b2] at hd
    rw [← hd, readFrame, b1]
  have c3 : (readFrame (readByte a) n s).2.draws = s.draws := by
    simp only [readFrame, deselect_draws, storeRx_draws, b3]
    simp
  rw [if_neg hn, c1, c2, c3] at h4
  exact Prod.ext c1 h4

/-- A device memory keeps all but its status register while it answers. -/
theorem memRead_devAfterRx {cfg : Params} {d : Device} {x : BitVec 7} (h : memWf d.reg = true)
    (hx : x ≠ d.ptr ∨ x ≠ wireAddr cfg.addrStatus) : memRead (devAfterRx cfg d).reg x.toNat = memRead d.reg x.toNat := by
  show memRead (devCountDown cfg d).reg x.toNat = _
  unfold devCountDown
  split
  · rename_i hc
    have hs : x ≠ wireAddr cfg.addrStatus := hx.elim (fun e => hc.1 ▸ e) id
    unfold devCountOne
    split
    · exact memRead_devStatusBit (d := { d with conv := 0, sampleDue := true, opMode := _ }) h hs
    · rfl
  · rfl

end Sys2Proof.Machine
end

