-- ==== Sys2Proof/Laws/Overflow.lean ====
section
/-! SUPPORT. Where the reference bodies overflow: the mark the model carries along is the list of the operations of R196, R203
and R213 that leave the s32 range (spec 00_scope.md R13, 60_exceptions.md R257). -/

namespace Sys2Proof.Machine

/-- Of the temperature body. -/
theorem compT_ovf (adcT : BitVec 20) (c : TempCoeffs) :
    ((referenceBody.compT adcT c).tfine.ovf || (referenceBody.compT adcT c).t.ovf) = cmptOverflows adcT c := by
  have h5 : s32 5 = 5#32 := rfl
  have h128 : s32 128 = 128#32 := rfl
  simp only [referenceBody, tempOfTerms, tempVar1, tempVar2, addS_ovf, subS_ovf, mulS_ovf, shlS_ovf _ 1 (by decide),
    asrS_ovf, sext_ovf, zext_ovf, const_ovf, addS_val, subS_val, mulS_val, shlS_val, asrS_val, sext_val, zext_val,
    const_val, h5, h128, cmptOverflows, Bool.or_false, Bool.false_or, Nat.reducePow]
  rw [Bool.eq_iff_iff, ← not_iff_not]
  simp only [Bool.not_eq_true, Bool.or_eq_false_iff, and_assoc]
  constructor <;> intro h <;> simp only [h, and_self]

/-- Of the humidity body. -/
theorem compH_ovf (adcH : BitVec 16) (tfine : S32) (c : HumCoeffs) :
    (referenceBody.compH adcH tfine c).ovf = cmphOverflows adcH tfine c := by
  have h1 : s32 76800 = 76800#32 := rfl
  have h2 : s32 16384 = 16384#32 := rfl
  have h3 : s32 32768 = 32768#32 := rfl
  have h4 : s32 2097152 = 2097152#32 := rfl
  have h5 : s32 8192 = 8192#32 := rfl
  simp only [referenceBody, clampShift, lsrU, humAccumulator, humScaleTerm, addS_ovf, subS_ovf, mulS_ovf,
    shlS_ovf _ 14 (by decide), shlS_ovf _ 20 (by decide), asrS_ovf, sext_ovf, zext_ovf, const_ovf, exact_ovf, exact_val,
    addS_val, subS_val, mulS_val, shlS_val, asrS_val, sext_val, zext_val, const_val, h1, h2, h3, h4, h5, cmphOverflows,
    Bool.or_false, Bool.false_or, Nat.reducePow]
  rw [Bool.eq_iff_iff, ← not_iff_not]
  simp only [Bool.not_eq_true, Bool.or_eq_false_iff, and_assoc]
  constructor <;> intro h <;> simp only [h, and_self]

theorem pressDivide_ovf (p d : Checked U32) : (pressDivide p d).ovf = (p.ovf || d.ovf) := by
  unfold pressDivide
  split <;> simp

theorem pressDivide_val (p d : Checked U32) : (pressDivide p d).val =
    if p.val < 0x80000000#32 then (p.val <<< 1) / d.val else (p.val / d.val) * 2#32 := by
  unfold pressDivide
  split <;> simp

/-- The denominator term as 32-bit arithmetic (R203 S1, S5, S6). -/
theorem pressDenominator_val (tfine : S32) (c : PressCoeffs) :
    (pressDenominator tfine c).val =
      let v1 := tfine.sshiftRight 1 - 64000#32
      let q := v1.sshiftRight 2
      ((32768#32 + ((c.p3.signExtend 32 * (q * q).sshiftRight 13).sshiftRight 3 +
        (c.p2.signExtend 32 * v1).sshiftRight 1).sshiftRight 18) * c.p1.setWidth 32).sshiftRight 15 := by
  have h1 : s32 64000 = 64000#32 := rfl
  have h3 : s32 32768 = 32768#32 := rfl
  simp only [pressDenominator, pressVar1, addS_val, subS_val, mulS_val, asrS_val, sext_val, zext_val, const_val,
    exact_val, h1, h3]

/-- Of the pressure body: behind the guard only where the denominator term is not 0. -/
theorem compP_ovf (adcP : BitVec 20) (tfine : S32) (c : PressCoeffs) :
    (referenceBody.compP adcP tfine c).ovf = cmppOverflows adcP tfine c := by
  have h0 : (0 : U32) = 0#32 := rfl
  have h1 : s32 64000 = 64000#32 := rfl
  have h3 : s32 32768 = 32768#32 := rfl
  have h4 : s32 1048576 = 1048576#32 := rfl
  have hv := pressDenominator_val tfine c
  by_cases hd : (pressDenominator tfine c).val = 0#32
  · simp only [referenceBody, guardedDivision, h0, hd, if_true]
    rw [hv] at hd
    simp only [cmppOverflows, hd, bne_self_eq_false, Bool.false_and, Bool.or_false]
    simp only [pressDenominator, pressVar1, pressVar2, addS_ovf, subS_ovf, mulS_ovf, shlS_ovf _ 1 (by decide),
      shlS_ovf _ 16 (by decide), asrS_ovf, sext_ovf, zext_ovf, const_ovf, exact_ovf, exact_val, addS_val, subS_val,
      mulS_val, shlS_val, asrS_val, sext_val, zext_val, const_val, h1, h3, Bool.or_false, Bool.false_or, Nat.reducePow]
    rw [Bool.eq_iff_iff, ← not_iff_not]
    simp only [Bool.not_eq_true, Bool.or_eq_false_iff, and_assoc]
    constructor <;> intro h <;> simp only [h, and_self]
  · simp only [referenceBody, guardedDivision, h0, hd, if_false]
    have hd2 : ((pressDenominator tfine c).val != 0#32) = true := by simpa using hd
    rw [hv] at hd2
    simp only [cmppOverflows, hd2, Bool.true_and]
    simp only [pressAfterDivision, addS_ovf, mulS_ovf, asrS_ovf, lsrU_ovf, mulU_ovf, pressDivide_ovf, pressDivide_val,
      lsrU_val, mulU_val, addS_val, mulS_val, asrS_val, hv]
    simp only [pressDividend, pressDenominator, pressVar1, pressVar2, addS_ovf, subS_ovf, mulS_ovf, mulU_ovf, subU_ovf,
      shlS_ovf _ 1 (by decide), shlS_ovf _ 16 (by decide), asrS_ovf, sext_ovf, zext_ovf, const_ovf, exact_ovf, exact_val,
      addS_val, subS_val, mulS_val, mulU_val, subU_val, shlS_val, asrS_val, sext_val, zext_val, const_val, h1, h3, h4,
      Bool.or_false, Bool.false_or, Nat.reducePow]
    rw [Bool.eq_iff_iff, ← not_iff_not]
    simp only [Bool.not_eq_true, Bool.or_eq_false_iff, and_assoc]
    constructor <;> intro h <;> simp only [h, and_self]

end Sys2Proof.Machine
end

