-- ==== Sys2Proof/Laws/PerInstr.lean ====
section
/-! SUPPORT. Per instruction: its words carry the fixed bits of its row of the opcode table (spec opcode_table.json "fixed",
30_encoding.md R91, R92, R103). -/

namespace Sys2Proof.Laws

/-- The fixed bits of a row: its bits hi down to lo hold `value`. -/
structure TableRow where
  hi : Nat
  lo : Nat
  value : Nat

/-- A number's bits hi down to lo. -/
def TableRow.slice (r : TableRow) (w : Nat) : Nat := w / 2 ^ r.lo % 2 ^ (r.hi + 1 - r.lo)

/-- The row of an instruction, as the table has it. -/
def TableRow.of : Instr → TableRow
  | .wireW _ _ => ⟨15, 15, 0⟩
  | .wireR _ _ => ⟨7, 7, 1⟩
  | .bwr _ _ => ⟨23, 16, 1⟩
  | .brd _ _ => ⟨23, 16, 2⟩
  | .init _ => ⟨23, 2, 262144⟩
  | .meas => ⟨23, 0, 1114112⟩
  | .rdid => ⟨23, 0, 2097152⟩
  | .ldcala => ⟨23, 0, 2162688⟩
  | .ldcalb => ⟨23, 0, 2228224⟩
  | .wros => ⟨23, 0, 2293760⟩
  | .wrhum => ⟨23, 0, 2359296⟩
  | .wrctl => ⟨23, 0, 2424832⟩
  | .poll => ⟨23, 0, 3145728⟩
  | .rdraw => ⟨23, 0, 3211264⟩
  | .cmpt => ⟨23, 0, 4194304⟩
  | .cmpp => ⟨23, 0, 4259840⟩
  | .cmph => ⟨23, 0, 4325376⟩
  | .scale => ⟨23, 0, 5242880⟩
  | .alt => ⟨23, 0, 5308416⟩

/-- An instruction's word, numbered as the table numbers it: a read frame's row is its address byte alone. -/
def TableRow.word (i : Instr) : Nat :=
  match i, encode i with
  | _, .cmd w => w.toNat
  | .wireR _ _, .frame b0 _ => b0.toNat
  | _, .frame b0 b1 => b0.toNat * 256 + b1.toNat

/-- The word of a well-formed instruction has its row's fixed bits, whatever RXBUF_LEN. -/
def TableRow.Statement (i : Instr) : Prop :=
  ∀ len, i.wf len = true → (TableRow.of i).slice (TableRow.word i) = (TableRow.of i).value

/-- Three bytes side by side are a number of base 256. -/
theorem toNat_cmd (op a b : Byte) : (op ++ a ++ b).toNat = op.toNat * 65536 + a.toNat * 256 + b.toNat := by
  have ha := a.isLt
  have hb := b.isLt
  rw [BitVec.toNat_append, BitVec.toNat_append, ← Nat.shiftLeft_add_eq_or_of_lt ha,
    ← Nat.shiftLeft_add_eq_or_of_lt hb, Nat.shiftLeft_eq, Nat.shiftLeft_eq]
  omega

theorem TableRow.wireW (a : BitVec 7) (d : Byte) : TableRow.Statement (.wireW a d) := by
  intro _ _
  have ha := a.isLt
  have hd := d.isLt
  have h : (0#1 ++ a).toNat = a.toNat := by
    rw [BitVec.toNat_append, ← Nat.shiftLeft_add_eq_or_of_lt ha]; simp
  simp only [TableRow.slice, TableRow.of, TableRow.word, encode, h]
  omega

theorem TableRow.wireR (a : BitVec 7) (n : Byte) : TableRow.Statement (.wireR a n) := by
  intro _ _
  have ha := a.isLt
  have h : (1#1 ++ a).toNat = 128 + a.toNat := by
    rw [BitVec.toNat_append, ← Nat.shiftLeft_add_eq_or_of_lt ha]; rfl
  simp only [TableRow.slice, TableRow.of, TableRow.word, encode, h]
  omega

theorem TableRow.bwr (a d : Byte) : TableRow.Statement (.bwr a d) := by
  intro _ _
  have h0 : (0x01 : Byte).toNat = 1 := rfl
  have ha := a.isLt
  have hd := d.isLt
  simp only [TableRow.slice, TableRow.of, TableRow.word, encode, cmdWord, toNat_cmd, h0]
  omega

theorem TableRow.brd (a n : Byte) : TableRow.Statement (.brd a n) := by
  intro _ _
  have h0 : (0x02 : Byte).toNat = 2 := rfl
  have ha := a.isLt
  have hn := n.isLt
  simp only [TableRow.slice, TableRow.of, TableRow.word, encode, cmdWord, toNat_cmd, h0]
  omega

theorem TableRow.init (m : BitVec 2) : TableRow.Statement (.init m) := by
  intro _ _
  have hm := m.isLt
  have h : (0#6 ++ m).toNat = m.toNat := by
    rw [BitVec.toNat_append, ← Nat.shiftLeft_add_eq_or_of_lt hm]; simp
  have h0 : (0x10 : Byte).toNat = 16 := rfl
  have h1 : (0 : Byte).toNat = 0 := rfl
  simp only [TableRow.slice, TableRow.of, TableRow.word, encode, cmdWord, toNat_cmd, h, h0, h1]
  omega

theorem TableRow.meas : TableRow.Statement .meas := fun _ _ => by decide
theorem TableRow.rdid : TableRow.Statement .rdid := fun _ _ => by decide
theorem TableRow.ldcala : TableRow.Statement .ldcala := fun _ _ => by decide
theorem TableRow.ldcalb : TableRow.Statement .ldcalb := fun _ _ => by decide
theorem TableRow.wros : TableRow.Statement .wros := fun _ _ => by decide
theorem TableRow.wrhum : TableRow.Statement .wrhum := fun _ _ => by decide
theorem TableRow.wrctl : TableRow.Statement .wrctl := fun _ _ => by decide
theorem TableRow.poll : TableRow.Statement .poll := fun _ _ => by decide
theorem TableRow.rdraw : TableRow.Statement .rdraw := fun _ _ => by decide
theorem TableRow.cmpt : TableRow.Statement .cmpt := fun _ _ => by decide
theorem TableRow.cmpp : TableRow.Statement .cmpp := fun _ _ => by decide
theorem TableRow.cmph : TableRow.Statement .cmph := fun _ _ => by decide
theorem TableRow.scale : TableRow.Statement .scale := fun _ _ => by decide
theorem TableRow.alt : TableRow.Statement .alt := fun _ _ => by decide

end Sys2Proof.Laws
end

