-- ==== Sys2Proof/Laws/Step.lean ====
section
/-! SUPPORT. Steps one after the other: a busy block's step, which micro-operation a micro-program's step is, and runs. -/

namespace Sys2Proof.Machine

/-- A busy block goes on with its command unless RST heads the host's list. -/
theorem step_of_busy {s : State} (hb : s.busy = true) (hn : NoRstNext s) : step s = runBusy s := by
  unfold step
  split
  · rename_i h hh; exact absurd hh (hn 0 h)
  · rename_i n h hh; exact absurd hh (hn (n + 1) h)
  · exact if_pos hb
  · exact if_pos hb

theorem run_zero (s : State) : Sys2Proof.core.run 0 s = .next s := rfl

theorem coreRun_succ (M : Host.Core) {k : Nat} {s t : M.State} (h : M.step s = .next t) :
    M.run (k + 1) s = M.run k t := by
  simp only [Host.Core.run, h]

/-- A run takes its first step and goes on from there. -/
theorem run_succ {k : Nat} {s t : State} (h : step s = .next t) :
    Sys2Proof.core.run (k + 1) s = Sys2Proof.core.run k t :=
  coreRun_succ Sys2Proof.core h

/-- The step of INIT at each index (R160). -/
theorem runBusy_init {s : State} (k : Fin 6) (hu : s.upc = upcOf progInit (BitVec.ofNat 3 k.val)) :
    runBusy s =
      match k with
      | 0 => toStep progInit 1#3 (microRdid s)
      | 1 => toStep progInit 2#3 (microLdcala s)
      | 2 => toStep progInit 3#3 (microLdcalb s)
      | 3 => toStep progInit 4#3 (microWros s)
      | 4 => toStep progInit 5#3 (microWrhum s)
      | 5 => endInit (microWrctl s) := by
  fin_cases k <;> simp only [runBusy, runInit, hu] <;> rfl

/-- The step of MEAS at each index (R172). -/
theorem runBusy_meas {s : State} (k : Fin 8) (hu : s.upc = upcOf progMeas (BitVec.ofNat 3 k.val)) :
    runBusy s =
      match k with
      | 0 => measRearm s
      | 1 => measPoll s
      | 2 => toStep progMeas 3#3 (microRdraw s)
      | 3 => toStep progMeas 4#3 (microCmpt s)
      | 4 => toStep progMeas 5#3 (microCmpp s)
      | 5 => toStep progMeas 6#3 (microCmph s)
      | 6 => toStep progMeas 7#3 (microScale s)
      | 7 => endMeas (microAlt s) := by
  fin_cases k <;> simp only [runBusy, runMeas, hu] <;> rfl

end Sys2Proof.Machine
end

