-- ==== Sys2Proof/Tests/Slice0.lean ====
section
/-! SUPPORT. Tests of one step each, expected results from the spec's encodings and vectors (spec 30_encoding.md,
95_test_vectors.md), and for each statement with hypotheses a state that meets them. -/

namespace Sys2Proof.Tests

-- One test after the other: side by side, each `decide +kernel` holds a thread while it waits for the ones before it.
set_option Elab.async false

open Sys2Proof.Machine

/-! ## Well-formedness: a term refused by each check -/

theorem test_wf_burst_longer_than_buffer :
    (Instr.brd 0xF7#8 27#8).wf 26 = false ∧ (Instr.wireR 0x77#7 27#8).wf 26 = false ∧ (Instr.brd 0xF7#8 26#8).wf 26 = true := by
  decide

theorem test_wf_reserved_mode : (Instr.init 0b10#2).wf 26 = false ∧ (Instr.init 0b11#2).wf 26 = true := by decide

/-! ## Decoding: one word per constructor, written out from R91, R92, R103 -/

theorem test_decode_frames :
    decode? 26 (.frame 0b01110100#8 0b01101101#8) = some (.wireW 0x74#7 0x6D#8) ∧
    decode? 26 (.frame 0b11110111#8 8#8) = some (.wireR 0x77#7 8#8) ∧
    decodeTableWord 16 0b0111010001101101 = some (.wireW 0x74#7 0x6D#8) ∧
    decodeTableWord 8 0b11110111 = some (.wireR 0x77#7 0#8) := by decide

theorem test_decode_bus :
    decodeTableWord 24 0b000000011111010001101101 = some (.bwr 0xF4#8 0x6D#8) ∧
    decodeTableWord 24 0b000000101111011100001000 = some (.brd 0xF7#8 8#8) := by decide

theorem test_decode_macros :
    decodeTableWord 24 0b000100000000000000000001 = some (.init 0b01#2) ∧
    decodeTableWord 24 0b000100010000000000000000 = some .meas := by decide

theorem test_decode_initialization :
    decodeTableWord 24 0b001000000000000000000000 = some .rdid ∧
    decodeTableWord 24 0b001000010000000000000000 = some .ldcala ∧
    decodeTableWord 24 0b001000100000000000000000 = some .ldcalb ∧
    decodeTableWord 24 0b001000110000000000000000 = some .wros ∧
    decodeTableWord 24 0b001001000000000000000000 = some .wrhum ∧
    decodeTableWord 24 0b001001010000000000000000 = some .wrctl := by decide

theorem test_decode_measurement :
    decodeTableWord 24 0b001100000000000000000000 = some .poll ∧
    decodeTableWord 24 0b001100010000000000000000 = some .rdraw := by decide

theorem test_decode_compensation :
    decodeTableWord 24 0b010000000000000000000000 = some .cmpt ∧
    decodeTableWord 24 0b010000010000000000000000 = some .cmpp ∧
    decodeTableWord 24 0b010000100000000000000000 = some .cmph := by decide

theorem test_decode_output :
    decodeTableWord 24 0b010100000000000000000000 = some .scale ∧
    decodeTableWord 24 0b010100010000000000000000 = some .alt := by decide

/-- Family K of 95: every illegal word. -/
theorem test_decode_illegal :
    decode 26 (.cmd 0x000000#24) = .error .unknownOp ∧ decode 26 (.cmd 0x990000#24) = .error .unknownOp ∧
    decode 26 (.cmd 0x400001#24) = .error .operandNotZero ∧ decode 26 (.cmd 0x100004#24) = .error .operandNotZero ∧
    decode 26 (.cmd 0x100101#24) = .error .operandNotZero ∧ decode 26 (.cmd 0x02F71B#24) = .error .burstTooLong ∧
    decode 26 (.cmd 0x100002#24) = .error .modeReserved := by decide

/-! ## Small states -/

/-- The coefficients of the worked examples (R196, R203, R213). -/
def cal1 : Calibration where
  t := { t1 := 27504, t2 := 26435, t3 := BitVec.ofInt 16 (-1000) }
  p := { p1 := 36477, p2 := BitVec.ofInt 16 (-10685), p3 := 3024, p4 := 2855, p5 := 140, p6 := BitVec.ofInt 16 (-7),
         p7 := 15500, p8 := BitVec.ofInt 16 (-14600), p9 := 6000 }
  h := { h1 := 75, h2 := 367, h3 := 0, h4 := 308, h5 := 50, h6 := 30 }

/-- A device known to answer these bytes. -/
def devOf (bs : List Byte) : Device := { Device.unknown with answers := bs }

/-- From reset, with such a device. -/
def fresh (bs : List Byte) : State := { State.reset with dev := devOf bs }

/-- Initialized in Sleep mode, at stage `c`, with the results of the worked examples. -/
def ready (c : BitVec 3) (bs : List Byte) : State :=
  { fresh bs with
    cal := cal1, calaValid := true, calbValid := true, idSeen := true, initDone := true, cyc := c, adcP := 415148,
    adcT := 519888, adcH := 30000, tfine := 128422, tX100 := 2508, pX100 := 100656, hX1024 := 58936,
    mT := .real 15, mP := .real 900, mH := .real 50 }

/-- The raw burst of the worked example (R176). -/
def rawBytes : List Byte := [0x65, 0x5A, 0xC0, 0x7E, 0xED, 0x00, 0x75, 0x30]

/-- A reference device in Forced mode, one poll before the end of a conversion that yields the raw burst of the worked
example, its status register holding `v`. -/
def refDev (v : Byte) (stuck : Bool) : Device :=
  { Device.unknown with
    kind := .reference, samples := [rawBytes], reg := [(0x73, v)], conv := 1, convLen := 1, stuck := stuck,
    opMode := .forced }

/-- What a next state has in it. -/
def after {α : Type} (f : State → α) : Host.Outcome State Fault Refusal → Option α
  | .next s => some (f s)
  | _ => none

/-! ## One step of each instruction -/

/-- P4 of 95: BWR 0xF4, 0x6D. -/
theorem test_bwr : after (fun t => (t.hist, t.csn, t.sdo, t.mode)) (exec (.bwr 0xF4 0x6D) State.reset) =
    some ([.sel, .dly .edge, .tx 0x74, .tx 0x6D, .desel, .dly .edge, .dly .post], true, 0x6D, 0b00) := by
  decide +kernel

/-- R91: the frame of WIRE_W. -/
theorem test_wireW : after (fun t => t.hist) (exec (.wireW 0x7F 0xFF) State.reset) =
    some [.sel, .dly .edge, .tx 0x7F, .tx 0xFF, .desel, .dly .edge, .dly .post] := by decide +kernel

/-- P4 of 95: BRD 0x77, 1, and BRD 0x50, 0. -/
theorem test_brd :
    after (fun t => (t.hist, t.rxbuf.head?, t.rxHigh, t.sdo)) (exec (.brd 0x77 1) (fresh [0xAB])) =
      some ([.sel, .dly .edge, .tx 0xF7, .rx 0xAB, .desel, .dly .edge], some 0xAB, 1, 0x00) ∧
    after (fun t => (t.hist, t.rxHigh)) (exec (.brd 0x50 0) State.reset) =
      some ([.sel, .dly .edge, .tx 0xD0, .desel, .dly .edge], 0) := by decide +kernel

/-- R129, R10: 27 bytes are refused by the default buffer, and read by one of 27 bytes. -/
theorem test_brd_of_a_longer_buffer :
    decode 27 (.cmd 0x02F71B#24) = .ok (.brd 0xF7#8 27#8) ∧
    after (fun t => t.err) (exec (.brd 0xF7 27) (fresh (List.replicate 27 0xA5))) = some 0b00100 ∧
    after (fun t => (t.err, t.rxHigh, t.hist.length))
      (exec (.brd 0xF7 27) { fresh (List.replicate 27 0xA5) with cfg := { defaultParams with rxbufExtra := 1 } }) =
      some (0, 27, 32) := by decide +kernel

/-- R92: the frame of WIRE_R. -/
theorem test_wireR : after (fun t => (t.hist, t.rxbuf.take 2)) (exec (.wireR 0x77 2) (fresh [0x65, 0x5A])) =
    some ([.sel, .dly .edge, .tx 0xF7, .rx 0x65, .rx 0x5A, .desel, .dly .edge], [0x65, 0x5A]) := by decide +kernel

/-- P1 of 95: INIT FORCED is accepted at step {1, 0}. -/
theorem test_init : after (fun t => (t.mode, t.upc, t.busy, t.hist)) (exec (.init 0b01) State.reset) =
    some (0b01, 0b01000, true, []) := by decide +kernel

/-- P3 of 95: a second INIT is refused, MODE stays. -/
theorem test_init_twice : after (fun t => (t.mode, t.err, t.busy)) (exec (.init 0b01) (ready 0 [])) =
    some (0b00, 0b01000, false) := by decide +kernel

/-- P3 of 95: MEAS before initialization. -/
theorem test_meas_uninitialized : after (fun t => (t.err, t.hist)) (exec .meas State.reset) = some (0b01000, []) := by
  decide +kernel

/-- P1 of 95: MEAS enters at {2, 0}. -/
theorem test_meas : after (fun t => (t.upc, t.busy)) (exec .meas (ready 0 [])) = some (0b10000, true) := by decide +kernel

/-- P5 (a) of 95: identity 0x58, with and without ID_STRICT. -/
theorem test_rdid :
    after (fun t => (t.chipId, t.idSeen, t.err)) (exec .rdid (fresh [0x58])) = some (0x58, true, 0) ∧
    after (fun t => (t.chipId, t.idSeen, t.err))
      (exec .rdid { fresh [0x58] with cfg := { defaultParams with idStrict := true } }) = some (0x58, true, 0b00001) := by
  decide +kernel

/-- Family D of 95: block A, its bytes 6 to 25 zero but for H1 (T1 = 0x6B70, T2 = 0x6743, T3 = -1000, H1 = 75). -/
theorem test_ldcala : after (fun t => (t.cal.t.t1, t.cal.t.t2, t.cal.t.t3.toInt, t.cal.h.h1, t.calaValid))
    (exec .ldcala (fresh ([0x70, 0x6B, 0x43, 0x67, 0x18, 0xFC] ++ List.replicate 19 0 ++ [0x4B]))) =
    some (0x6B70, 0x6743, -1000, 75, true) := by decide +kernel

/-- Family C of 95: block B = 6F 01 00 13 24 03 1E 00. -/
theorem test_ldcalb : after (fun t => (t.cal.h.h2, t.cal.h.h3, t.cal.h.h4, t.cal.h.h5, t.cal.h.h6, t.calbValid))
    (exec .ldcalb (fresh [0x6F, 0x01, 0x00, 0x13, 0x24, 0x03, 0x1E, 0x00])) =
    some (367, 0, 308, 50, 30, true) := by decide +kernel

/-- P1 of 95: the three configuration writes of INIT FORCED. -/
theorem test_configuration_writes :
    after (fun t => t.hist) (exec .wros { State.reset with mode := 0b01 }) =
      some [.sel, .dly .edge, .tx 0x74, .tx 0x6C, .desel, .dly .edge, .dly .post] ∧
    after (fun t => t.hist) (exec .wrhum { State.reset with mode := 0b01 }) =
      some [.sel, .dly .edge, .tx 0x72, .tx 0x01, .desel, .dly .edge, .dly .post] ∧
    after (fun t => t.hist) (exec .wrctl { State.reset with mode := 0b01 }) =
      some [.sel, .dly .edge, .tx 0x74, .tx 0x6D, .desel, .dly .edge, .dly .post] := by decide +kernel

/-- R174: a status byte with only bit 3 set polls on, with every bit but 3 ends the poll. -/
theorem test_poll :
    after (fun t => (t.hist, t.busy, t.polling)) (exec .poll (ready 0 [0x08])) =
      some ([.sel, .dly .edge, .tx 0xF3, .rx 0x08, .desel, .dly .edge, .dly .poll], true, true) ∧
    after (fun t => (t.hist, t.busy, t.polling)) (exec .poll (ready 0 [0xF7])) =
      some ([.sel, .dly .edge, .tx 0xF3, .rx 0xF7, .desel, .dly .edge], false, false) := by decide +kernel

/-- R68, R74: the reference device answers its status register and counts the conversion down; at its end bit 3 clears, the
sample stands in the raw-data region, and the device is back in Sleep. -/
theorem test_poll_of_the_reference_device :
    after (fun t => (t.rxbuf.head?, t.dev.conv, memRead t.dev.reg 0x73, t.dev.ptr))
      (exec .poll { ready 0 [] with dev := refDev 0x09 false }) = some (some 0x09, 0, 0x01, 0x74) ∧
    after (fun t => (memRead t.dev.reg 0x77, memRead t.dev.reg 0x7E, t.dev.opMode))
      (exec .poll { ready 0 [] with dev := refDev 0x09 false }) = some (0x65, 0x30, .sleep) := by decide +kernel

/-- R69: a device told Normal while a triggered conversion counts stays in Normal. -/
theorem test_normal_write_stays :
    after (fun t => (t.dev.opMode, t.dev.conv))
      (exec (.bwr 0xF4 0x6F) { ready 0 [] with dev := refDev 0x08 false }) = some (.normal, 1) ∧
    after (fun t => t.dev.opMode)
      (exec .poll { ready 0 [] with dev := { refDev 0x08 false with opMode := .normal } }) = some .normal := by
  decide +kernel

/-- R101: each factor has its code. -/
theorem test_oversampling_codes : ∀ f ∈ [OsFactor.skipped, .x1, .x2, .x4, .x8, .x16],
    osFactorOf defaultOsCodes (osCodeOf defaultOsCodes f) = f := by decide

/-- R70, R286 (b): after WROS, WRHUM and WRCTL in Sleep mode the default oversampling is in effect, after WROS alone not. -/
theorem test_oversampling :
    (after (fun t => t) (exec .wros { ready 0 [] with dev := refDev 0x00 false })).map (fun t => t.dev.active) =
      some { t := 0, p := 0, h := 0 } ∧
    ((((after (fun t => t) (exec .wros { ready 0 [] with dev := refDev 0x00 false })).bind fun t =>
      after (fun t => t) (exec .wrhum t)).bind fun t => after (fun t => t) (exec .wrctl t)).map fun t => t.dev.active) =
      some { t := 0b011, p := 0b011, h := 0b001 } := by decide +kernel

/-- R176: the worked example. -/
theorem test_rdraw : after (fun t => (t.adcP, t.adcT, t.adcH, t.cyc))
    (exec .rdraw (ready 4 [0x65, 0x5A, 0xC0, 0x7E, 0xED, 0x00, 0x75, 0x30])) = some (415148, 519888, 30000, 1) := by
  decide +kernel

/-- Family F of 95: the worked example; and R198 (e), where both products wrap. -/
theorem test_cmpt :
    after (fun t => (t.tfine.toInt, t.tX100.toInt, t.cyc)) (exec .cmpt (ready 1 [])) = some (128422, 2508, 2) ∧
    after (fun t => (t.tfine.toInt, t.tX100.toInt, t.cyc))
      (exec .cmpt { ready 1 [] with adcT := 1048575, cal := { cal1 with t := { t1 := 0, t2 := 32767, t3 := 32767 } } }) =
      some (-144, -3, 2) := by decide +kernel

/-- R198 (e): under OVERFLOW_POLICY = fault the same input raises ARITH. -/
theorem test_cmpt_fault : after (fun t => (t.tfine.toInt, t.err, t.cyc))
    (exec .cmpt { ready 1 [] with
      cfg := { defaultParams with overflow := .fault }, adcT := 1048575,
      cal := { cal1 with t := { t1 := 0, t2 := 32767, t3 := 32767 } } }) = some (128422, 0b10000, 1) := by decide +kernel

/-- Family G of 95: both division branches, and a wrapping S7. -/
theorem test_cmpp :
    after (fun t => (t.pX100, t.cyc)) (exec .cmpp (ready 2 [])) = some (100656, 3) ∧
    after (fun t => t.pX100) (exec .cmpp { ready 2 [] with adcP := 300000 }) = some 120601 ∧
    after (fun t => t.pX100) (exec .cmpp { ready 2 [] with adcP := 1048575 }) = some 231379 := by decide +kernel

/-- Family G of 95: the guard at P1 = 1, and P1 = 2 next to it. -/
theorem test_cmpp_guard :
    after (fun t => (t.pX100, t.err)) (exec .cmpp { ready 2 [] with cal := { cal1 with p := { cal1.p with p1 := 1 } } }) =
      some (0, 0) ∧
    after (fun t => (t.pX100, t.err)) (exec .cmpp { ready 2 [] with cal := { cal1 with p := { cal1.p with p1 := 2 } } }) =
      some (3673424228, 0) := by decide +kernel

/-- Family H of 95: the worked example, and the rows that bracket the two clamps. -/
theorem test_cmph :
    after (fun t => (t.hX1024, t.cyc)) (exec .cmph (ready 3 [])) = some (58936, 4) ∧
    after (fun t => t.hX1024) (exec .cmph { ready 3 [] with adcH := 19868 }) = some 0 ∧
    after (fun t => t.hX1024) (exec .cmph { ready 3 [] with adcH := 19869 }) = some 0 ∧
    after (fun t => t.hX1024) (exec .cmph { ready 3 [] with adcH := 37580 }) = some 102391 ∧
    after (fun t => t.hX1024) (exec .cmph { ready 3 [] with adcH := 37581 }) = some 102400 := by decide +kernel

/-- R231, R232: stage and validity; a zero humidity is stored as 0. -/
theorem test_scale : after (fun t => (t.cyc, t.measValid, t.mH)) (exec .scale { ready 4 [] with hX1024 := 0 }) =
    some (5, false, .real 0) := by decide +kernel

/-- Family J of 95: M_P = 1013.25 gives altitude 0, whatever M_T. -/
theorem test_alt : after (fun t => (t.cyc, t.measValid, t.mAlt))
    (exec .alt { ready 5 [] with mT := .real (-40), mP := .real (101325 / 100) }) = some (6, true, .real 0) := by
  decide +kernel

/-! ## Steps -/

/-- The word presented by `withFetchWord` is executed by the next step. -/
theorem test_fetch_word : after (fun t => (t.hist.length, t.host)) (step (State.reset.withFetchWord 24 0x01F46D)) =
    some (7, []) := by decide +kernel

/-- P1 of 95: the first step of INIT is RDID, and UPC goes to {1, 1}. -/
theorem test_init_step : after (fun t => (t.chipId, t.upc, t.busy))
    (step { fresh [0x60] with upc := 0b01000, busy := true }) = some (0x60, 0b01001, true) := by decide +kernel

/-- R172: M6 is SCALE, and UPC goes to {2, 7}. -/
theorem test_meas_step : after (fun t => (t.cyc, t.upc, t.busy))
    (step { ready 4 [] with upc := 0b10110, busy := true }) = some (5, 0b10111, true) := by decide +kernel

/-- R280: RST while a poll loop runs. -/
theorem test_rst : after (fun t => (t.busy, t.upc, t.initDone, t.hist, t.host))
    (step { ready 0 [] with busy := true, polling := true, hist := [.sel], host := [.rst 0] }) =
    some (false, 0, false, [], []) := by decide +kernel

/-! ## For each statement with hypotheses, what meets them -/

theorem noRstNext_of_idle {s : State} (h : s.host = []) : NoRstNext s := fun _ _ h' => by simp [h] at h'

theorem notRst_of_idle {s : State} (h : s.host = []) : NotRst s := fun _ h' => by simp [h] at h'

/-- `ready` with the host presenting a word. -/
def asked (w : BitVec 24) : State := { ready 0 [] with host := [.present (.cmd w)] }

/-- DecodeOfEncode: at the bounds of both checked operands. -/
theorem test_meets_decodeOfEncode : (Instr.brd 0xFF#8 26#8).wf 26 = true ∧ (Instr.wireR 0x7F#7 0#8).wf 26 = true ∧
    (Instr.init 0b11#2).wf 26 = true ∧ (Instr.wireW 0#7 0xFF#8).wf 26 = true ∧ Instr.alt.wf 26 = true := by decide

/-- EncodeOfDecode. -/
theorem test_meets_encodeOfDecode : decode 26 (.cmd 0x100003#24) = .ok (.init 0b11#2) ∧
    decode 26 (.frame 0xFF#8 26#8) = .ok (.wireR 0x7F#7 26#8) := by decide

/-- IllegalWordRaisesBadCmd: an illegal word for each of R105 (a) to (d), and the legal words next to them. -/
theorem test_meets_illegalWord :
    IllegalWord 26 0x520000#24 ∧ IllegalWord 26 0x510001#24 ∧ IllegalWord 26 0x100004#24 ∧ IllegalWord 26 0x02FF1B#24 ∧
    IllegalWord 26 0x100002#24 ∧ ¬IllegalWord 26 0x02FF1A#24 ∧ ¬IllegalWord 26 0x100003#24 ∧ ¬IllegalWord 26 0x510000#24 := by
  refine ⟨?_, ?_, ?_, ?_, ?_, ?_, ?_, ?_⟩ <;> decide

/-- IllegalWordRaisesBadCmd: an illegal word presented to an idle block. -/
theorem test_meets_illegalStep : IllegalWord 26 0x520000#24 ∧ (asked 0x520000).busy = false ∧ AtRest (asked 0x520000) ∧
    (asked 0x520000).host = .present (.cmd 0x520000) :: [] :=
  ⟨by decide, rfl, ⟨rfl, rfl⟩, rfl⟩

/-- StepRunsTheDecodedInstruction. -/
theorem test_meets_step : (asked 0x310000).busy = false ∧ (asked 0x310000).host = .present (.cmd 0x310000) :: [] ∧
    decode 26 (.cmd 0x310000) = .ok .rdraw := by decide +kernel

/-- BusyHoldsTheCommand: a MEAS at M2. -/
theorem test_meets_busy : ({ asked 0x310000 with busy := true, upc := 0b10010 } : State).host =
      .present (.cmd 0x310000) :: [] ∧
    after (fun t => t.host.length) (step { asked 0x310000 with busy := true, upc := 0b10010 }) = some 1 := by
  decide +kernel

/-- RstRestoresTheBlock. -/
theorem test_meets_rst : ({ ready 4 [] with host := [.rst 0] } : State).host = .rst 0 :: [] := rfl

/-- HostReadsUnderGuard: a busy block; TFINE at both sides of its guard; RXBUF at both sides of its. -/
theorem test_meets_hostRead :
    ({ ready 2 [] with busy := true } : State).busy = true ∧
    hostRead .tfine (ready 2 []) = some (.num 128422) ∧ hostRead .tfine (ready 1 []) = none ∧
    hostRead (.rxbuf 1) { ready 2 [] with rxbuf := [1, 2, 3], rxHigh := 2 } = some (.num 2) ∧
    hostRead (.rxbuf 2) { ready 2 [] with rxbuf := [1, 2, 3], rxHigh := 2 } = none ∧
    (ready 2 []).busy = false ∧ hostRead .calP2 (ready 2 []) = some (.num (-10685)) ∧
    hostRead .calP1 (ready 2 []) = some (.num 36477) ∧ hostRead .calP1 State.reset = none ∧
    hostRead .mT (ready 5 []) = some (.flt (.real 15)) ∧ hostRead .mT (ready 4 []) = none ∧
    hostRead .mAlt (ready 5 []) = none ∧ hostRead .pollCnt (ready 0 []) = none ∧
    hostRead .pollCnt { ready 0 [] with cfg := { defaultParams with pollLimit := some 3 }, pollCnt := 2 } =
      some (.num 2) ∧
    hostRead .osrsT (ready 0 []) = some (.num 3) := by decide +kernel

/-- BrdReadsTheBurst, WireRReadsTheBurst: both sides of the bound. -/
theorem test_meets_burst : (0#8).toNat ≤ rxbufLen State.reset.cfg ∧ (26#8).toNat ≤ rxbufLen State.reset.cfg ∧
    rxbufLen State.reset.cfg < (27#8).toNat ∧ AtRest State.reset := by
  unfold AtRest
  decide +kernel

/-- BrdDeliversAnyBytes. -/
theorem test_meets_answers : Answers (fresh [0xFF, 0x00, 0x60]) [0xFF, 0x00] [0x60] ∧
    [0xFF#8, 0x00#8].length ≤ rxbufLen (fresh []).cfg ∧ [0xFF#8, 0x00#8].length < 256 :=
  ⟨⟨rfl, rfl⟩, by decide, by decide⟩

/-- WritesStoreOneByteOfTheDevice: a quiet device, whose own locations a write elsewhere keeps. -/
theorem test_meets_writes : (refDev 0x09 false).kind = .reference ∧ memWf (refDev 0x09 false).reg = true ∧
    Quiet (refDev 0x09 false) := by
  unfold Quiet
  decide

/-- ReadsStoreNothingInTheDevice: a status read that changes the status register. -/
theorem test_meets_reads :
    Instr.poll ∉ [Instr.wros, .wrhum, .wrctl] ∧ memWf (refDev 0x09 false).reg = true ∧
    (∃ t, exec .poll { ready 0 [] with dev := refDev 0x09 false } = .next t) ∧
    0x10#7 ∉ devOwn defaultParams ∧ 0x77#7 ∈ devOwn defaultParams ∧
    Quiet { refDev 0x01 false with conv := 0, opMode := .sleep } :=
  ⟨by decide, by decide, ⟨_, rfl⟩, by decide +kernel, by decide +kernel, by decide, rfl⟩

/-- ReferenceDeviceAnswersABurst: up to the last location, and past it; and the bytes themselves. -/
theorem test_meets_deviceBurst : (refDev 0x09 false).kind = .reference ∧ memWf (refDev 0x09 false).reg = true ∧
    (26#8).toNat ≤ rxbufLen defaultParams ∧ (wireAddr 0xE6#8).toNat + 25 = 0x7F ∧ (wireAddr 0xFF#8).toNat + 0 = 0x7F ∧
    after (fun t => t.rxbuf.take 3) (exec (.brd 0xF2 3) { ready 0 [] with dev := refDev 0x09 false }) =
      some [0x00, 0x09, 0x00] := by decide +kernel

/-- ReferenceDeviceConverts: what its clauses assume, of a Forced code with N = 0 and N >= 1, a running conversion, one poll
and more before its end, and a Normal code. -/
theorem test_meets_deviceConverts :
    let d := refDev 0x08 false
    d.kind = .reference ∧ memWf d.reg = true ∧ d.sampleDue = false ∧ d.samples = rawBytes :: [] ∧ rawBytes.length = 8 ∧
      (wireAddr defaultParams.addrData).toNat + 8 ≤ 128 ∧ wireAddr defaultParams.addrStatus ∉ devDataRegion defaultParams ∧
      ctrlMode 0x6D = defaultParams.modeForced ∧ d.convLen ≠ 0 ∧ ({ d with convLen := 0 } : Device).convLen = 0 ∧
      d.stuck = false ∧ d.conv = 1 ∧ 2 ≤ ({ d with conv := 2 } : Device).conv ∧ d.opMode = .forced ∧
      ctrlMode 0x6F = defaultParams.modeNormal ∧ defaultParams.modeNormal ≠ defaultParams.modeForced ∧
      (ready 0 []).initDone = true := by decide +kernel

/-- OversamplingTakesEffectAtTheLastWrite. -/
theorem test_meets_oversampling : (refDev 0x00 false).kind = .reference ∧
    wireAddr defaultParams.addrCtrlHum ≠ wireAddr defaultParams.addrCtrlMeas ∧
    devModeOf defaultParams defaultParams.modeSleep = .sleep := by decide +kernel

/-- RdidStoresTheIdentity, LdcalaLoadsBlockA, LdcalbLoadsBlockB. -/
theorem test_meets_loads : AtRest State.reset ∧ State.reset.calaValid = false ∧ State.reset.calbValid = false :=
  ⟨⟨rfl, rfl⟩, rfl, rfl⟩

/-- SecondLoadIsRefused (its second clause: test_meets_step_claims). -/
theorem test_meets_secondLoad : AtRest (ready 0 []) ∧ (ready 0 []).calaValid = true ∧ (ready 0 []).calbValid = true :=
  ⟨⟨rfl, rfl⟩, rfl, rfl⟩

/-- InitIsAcceptedOrRefused: both values of INIT_DONE. -/
theorem test_meets_initAccepted :
    AtRest State.reset ∧ State.reset.initDone = false ∧ AtRest (ready 0 []) ∧ (ready 0 []).initDone = true :=
  ⟨⟨rfl, rfl⟩, rfl, ⟨rfl, rfl⟩, rfl⟩

/-- InitCompletes, InitEqualsItsExpansion: without ID_STRICT, and with it and the right identity. -/
theorem test_meets_init : (0b11#2) ≠ 0b10#2 ∧ AtRest State.reset ∧ NoRstNext State.reset ∧ State.reset.initDone = false ∧
    State.reset.calaValid = false ∧ State.reset.calbValid = false ∧ State.reset.cfg.idStrict = false ∧
    Answers { fresh [0x60] with cfg := { defaultParams with idStrict := true } } [0x60#8] [] :=
  ⟨by decide, ⟨rfl, rfl⟩, noRstNext_of_idle rfl, rfl, rfl, rfl, rfl, rfl, rfl⟩

/-- A fresh block with ID_STRICT and a device of another identity. -/
def strict : State := { fresh [0x58, 0x01] with cfg := { defaultParams with idStrict := true } }

/-- A fresh block into which the host has loaded one calibration block, A or B. -/
def preloaded (a : Bool) : State := { fresh [] with calaValid := a, calbValid := !a }

/-- InitAborts: a wrong identity; block A loaded before; block B loaded before. -/
theorem test_meets_initAborts : (0b01#2) ≠ 0b10#2 ∧ AtRest strict ∧ NoRstNext strict ∧ strict.initDone = false ∧
    strict.cfg.idStrict = true ∧ (0x58#8) ≠ 0x60#8 ∧ Answers strict [0x58] [0x01] ∧
    (∀ a, AtRest (preloaded a) ∧ NoRstNext (preloaded a) ∧ (preloaded a).initDone = false ∧
      (preloaded a).cfg.idStrict = false) ∧
    (preloaded true).calaValid = true ∧ (preloaded false).calaValid = false ∧ (preloaded false).calbValid = true :=
  ⟨by decide, ⟨rfl, rfl⟩, noRstNext_of_idle rfl, rfl, rfl, by decide, ⟨rfl, rfl⟩,
    fun _ => ⟨⟨rfl, rfl⟩, noRstNext_of_idle rfl, rfl, rfl⟩, rfl, rfl, rfl⟩

/-- OutOfOrderIsRefused for the measurement commands, RdrawUnpacksTheBurst before initialization. -/
theorem test_meets_needsInit : Instr.poll ∈ [Instr.meas, .poll, .rdraw] ∧ AtRest State.reset ∧ State.reset.initDone = false :=
  ⟨by decide, ⟨rfl, rfl⟩, rfl⟩

/-- PollReadsTheStatus: the loop ends, goes on, and is at its limit. -/
theorem test_meets_poll :
    AtRest (ready 0 [0x00]) ∧ (ready 0 [0x00]).initDone = true ∧
    after (fun t => (t.busy, t.err)) (exec .poll (ready 0 [0x00])) = some (false, 0) ∧
    after (fun t => (t.busy, t.err))
      (exec .poll { ready 0 [0x08] with cfg := { defaultParams with pollLimit := some 2 } }) = some (true, 0) ∧
    after (fun t => (t.busy, t.err))
      (exec .poll { ready 0 [0x08] with cfg := { defaultParams with pollLimit := some 1 } }) = some (false, 0b00010) := by
  unfold AtRest
  decide +kernel

/-- A block whose device never finishes its conversion, at the poll loop of a MEAS. -/
def hanging : State := { ready 0 [] with dev := refDev 0x08 true, busy := true, upc := 0b10001 }

/-- PollOfAStuckDeviceNeverEnds. -/
theorem test_meets_stuck : hanging.busy = true ∧ hanging.upc = 0b10001#5 ∧ hanging.initDone = true ∧
    hanging.cfg.pollLimit = none ∧ NoRstNext hanging ∧ hanging.dev.kind = .reference ∧ hanging.dev.stuck = true ∧
    hanging.dev.sampleDue = false ∧
    statusBusy (memRead hanging.dev.reg (wireAddr hanging.cfg.addrStatus).toNat) = true :=
  ⟨rfl, rfl, rfl, rfl, noRstNext_of_idle rfl, rfl, rfl, rfl, by decide +kernel⟩

/-- The same device and a limit of three polls (P5 b of 95). -/
def limited : State :=
  { ready 0 [] with dev := refDev 0x08 true, cfg := { defaultParams with pollLimit := some 3 } }

/-- A block initialized in Forced mode with that limit, whose device answers a set bit 3 three times. -/
def timingOut : State :=
  { ready 0 [0x08, 0x08, 0x08, 0x77] with mode := 0b01, cfg := { defaultParams with pollLimit := some 3 } }

/-- PollLimitEndsThePoll: the POLL, and the MEAS. -/
theorem test_meets_pollLimit : AtRest limited ∧ limited.initDone = true ∧ limited.cfg.pollLimit = some (2 + 1) ∧
    NoRstNext limited ∧ limited.dev.kind = .reference ∧ limited.dev.stuck = true ∧ limited.dev.sampleDue = false ∧
    statusBusy (memRead limited.dev.reg (wireAddr limited.cfg.addrStatus).toNat) = true ∧
    timingOut.initDone = true ∧ NoRstNext timingOut ∧ timingOut.polling = false ∧
    timingOut.mode = timingOut.cfg.modeForced ∧ timingOut.cfg.pollLimit = some (2 + 1) ∧
    (∀ b ∈ [0x08#8, 0x08#8, 0x08#8], b.getLsbD 3 = true) ∧ Answers timingOut [0x08, 0x08, 0x08] [0x77] :=
  ⟨⟨rfl, rfl⟩, rfl, rfl, noRstNext_of_idle rfl, rfl, rfl, rfl, by decide +kernel, rfl, noRstNext_of_idle rfl, rfl, rfl,
    rfl, by decide, rfl, rfl⟩

/-- RdrawUnpacksTheBurst, MeasEntersAndBranches in either mode, MeasCompletesOutsideForced, MeasEqualsItsExpansion. -/
theorem test_meets_meas : AtRest (ready 0 []) ∧ NoRstNext (ready 0 []) ∧ (ready 0 []).initDone = true ∧
    (ready 0 []).mode ≠ (ready 0 []).cfg.modeForced ∧ (ready 0 []).cfg.overflow = .wrap ∧
    (ready 0 []).calaValid = true ∧ (ready 0 []).calbValid = true ∧
    ({ ready 0 [] with mode := 0b01 } : State).mode = (ready 0 []).cfg.modeForced :=
  ⟨⟨rfl, rfl⟩, noRstNext_of_idle rfl, rfl, by decide +kernel, rfl, rfl, rfl, rfl⟩

/-- A block initialized in Forced mode whose device answers a clear status and then the raw burst. -/
def forced : State := { ready 0 (0x00 :: rawBytes) with mode := 0b01 }

/-- MeasCompletesInForced, MeasEqualsItsExpansion in Forced mode (with no busy status; one: test_meets_forcedLoop). -/
theorem test_meets_forced : forced.initDone = true ∧ NoRstNext forced ∧ forced.polling = false ∧
    forced.mode = forced.cfg.modeForced ∧ forced.cfg.overflow = .wrap ∧ forced.calaValid = true ∧
    forced.calbValid = true ∧ rawBytes.length = 8 ∧ (0x00#8).getLsbD 3 = false ∧ Answers forced (0x00 :: rawBytes) [] :=
  ⟨rfl, noRstNext_of_idle rfl, rfl, rfl, rfl, rfl, rfl, rfl, by decide, rfl, rfl⟩

/-- MeasEqualsItsExpansion in Forced mode, the first status byte busy. -/
theorem test_meets_forcedLoop :
    let s : State := { forced with dev := devOf (0x08 :: 0x00 :: rawBytes) }
    AtRest s ∧ s.cfg.pollLimit = none ∧ (∀ x ∈ [0x08#8], x.getLsbD 3 = true) ∧ Answers s ([0x08] ++ 0x00 :: rawBytes) [] :=
  ⟨⟨rfl, rfl⟩, rfl, by decide, rfl, rfl⟩

/-- CmptComputesTheReference, CmppComputesTheReference, CmphComputesTheReference, HumidityClampSaturates,
AnyBodyKeepsItsProperties. -/
theorem test_meets_compensation :
    (ready 1 []).cyc = 1#3 ∧ (ready 2 []).cyc = 2#3 ∧ (ready 3 []).cyc = 3#3 ∧ ∀ c, (ready c []).calaValid = true ∧
      (ready c []).calbValid = true ∧ (ready c []).cfg.overflow = .wrap ∧ (ready c []).cfg.compBody = .reference :=
  ⟨rfl, rfl, rfl, fun _ => ⟨rfl, rfl, rfl, rfl⟩⟩

/-- OutOfOrderIsRefused, ScaleDividesTheResults and AltComputesTheAltitude out of their stage: no stage reached, and a
stage without calibration. -/
theorem test_meets_outOfOrder : AtRest State.reset ∧ State.reset.cyc ≠ 1#3 ∧ State.reset.cyc ≠ 2#3 ∧
    State.reset.cyc ≠ 3#3 ∧ State.reset.cyc ≠ 4#3 ∧ State.reset.cyc ≠ 5#3 ∧
    ¬(({ State.reset with cyc := 1#3 } : State).cyc = 1#3 ∧ ({ State.reset with cyc := 1#3 } : State).calaValid = true) := by
  unfold AtRest
  decide +kernel

/-- `ready` under OVERFLOW_POLICY = fault. -/
def faulting (c : BitVec 3) : State := { ready c [] with cfg := { defaultParams with overflow := .fault } }

/-- OverflowRaisesArith: R198 (e) overflows CMPT, a TFINE at the bottom of its range CMPP, H4 = 2048 CMPH (R219 f); the
worked examples do not overflow. -/
theorem test_meets_overflow : (∀ c, AtRest (faulting c) ∧ (faulting c).cfg.overflow = .fault ∧
      (faulting c).cfg.compBody = .reference ∧ (faulting c).calaValid = true ∧ (faulting c).calbValid = true) ∧
    cmptOverflows 1048575 { t1 := 0, t2 := 32767, t3 := 32767 } = true ∧ cmptOverflows 519888 cal1.t = false ∧
    cmppOverflows 415148 0x80000000 cal1.p = true ∧ cmppOverflows 415148 128422 cal1.p = false ∧
    cmphOverflows 30000 128422 { cal1.h with h4 := 2048 } = true ∧ cmphOverflows 30000 128422 cal1.h = false :=
  ⟨fun _ => ⟨⟨rfl, rfl⟩, rfl, rfl, rfl, rfl⟩, by decide +kernel⟩

/-- OverflowRaisesArith inside MEAS: its three steps; and an M3 that aborts, the record kept. -/
theorem test_meets_overflowInMeas :
    (∀ c u, let s : State := { faulting c with busy := true, upc := u }
      NoRstNext s ∧ s.busy = true ∧ s.polling = false ∧ s.cfg.overflow = .fault ∧ s.cfg.compBody = .reference ∧
        s.calaValid = true ∧ s.calbValid = true ∧ s.upc = u ∧ s.cyc = c) ∧
    after (fun t => (t.err, t.upc, t.busy, t.mT))
      (step { faulting 1 with
        busy := true, upc := 0b10011, adcT := 1048575,
        cal := { cal1 with t := { t1 := 0, t2 := 32767, t3 := 32767 } } }) = some (0b10000, 0, false, .real 15) :=
  ⟨fun _ _ => ⟨noRstNext_of_idle rfl, rfl, rfl, rfl, rfl, rfl, rfl, rfl, rfl⟩, by decide +kernel⟩

/-- ScaleDividesTheResults, AltComputesTheAltitude, AltAtZeroAndSeaLevelPressure. -/
theorem test_meets_output : (ready 4 []).cyc = 4#3 ∧ (ready 5 []).cyc = 5#3 ∧ (ready 5 []).mT = .real 15 ∧
    (ready 5 []).mP = .real 900 ∧ (900 : Rat) ≠ 0 ∧ ({ ready 5 [] with mP := .real 0 } : State).mP = .real 0 ∧
    ({ ready 5 [] with mP := .real (101325 / 100) } : State).mP = .real (101325 / 100) :=
  ⟨rfl, rfl, rfl, rfl, by decide, rfl, rfl⟩

/-- A block inside MEAS, at M3, with a frame in HIST and the whole buffer read. -/
def measuring : State :=
  { ready 1 [] with
    busy := true, upc := 0b10011, hist := readEvents 0xF7 [0x65], rxbuf := List.replicate 26 0xA5, rxHigh := 26 }

/-- EveryStepKeepsTheBus, EveryStepKeepsTheControl, EveryStepKeepsTheData, TheBlockAlwaysHasAStep: the invariants hold of
a block at work, which has a step. -/
theorem test_meets_invariants : BusOk measuring ∧ ControlOk measuring ∧ DataOk measuring ∧
    ∃ t, step measuring = .next t := by
  refine ⟨⟨rfl, rfl, rfl⟩, ⟨?_, fun _ => .inr (.inl ⟨rfl, rfl, ?_, ?_⟩), fun _ => ⟨rfl, rfl, rfl⟩, fun _ => rfl, ?_⟩,
    ⟨rfl, ?_, ?_, ?_, ?_, fun _ => ⟨⟨_, rfl⟩, ⟨_, rfl⟩, _, rfl⟩, rfl, rfl⟩, _, rfl⟩ <;> decide +kernel

/-- A block at stage 4, with all its data in. -/
theorem test_meets_data : DataOk { measuring with cyc := 4#3, measValid := true } := by
  refine ⟨rfl, ?_, ?_, ?_, ?_, fun _ => ⟨⟨_, rfl⟩, ⟨_, rfl⟩, _, rfl⟩, rfl, rfl⟩ <;> decide +kernel

/-- ErrorsAreSticky, BaselineRaisesOnlyRefusals, ParametersAreFixed, CalibrationIsImmutable, HistoryOnlyGrows. -/
theorem test_meets_step_claims : NotRst measuring ∧ Baseline measuring.cfg ∧ measuring.calaValid = true ∧
    measuring.calbValid = true ∧ ∃ t, step measuring = .next t :=
  ⟨notRst_of_idle rfl, ⟨rfl, rfl, rfl⟩, rfl, rfl, _, rfl⟩

/-- ModeIsWrittenByInitOnly: a step that changes MODE, of an idle block not initialized. -/
theorem test_meets_mode : NotRst { State.reset with host := [.present (.cmd 0x100003)] } ∧
    after (fun t => t.mode) (step { State.reset with host := [.present (.cmd 0x100003)] }) = some 0b11 ∧
    State.reset.mode ≠ 0b11 :=
  ⟨fun _ h => by simp at h, by decide +kernel, by decide +kernel⟩

/-- TfineIsWrittenByCmptOnly: a step that changes TFINE. -/
theorem test_meets_tfine : NotRst { measuring with tfine := 0 } ∧
    after (fun t => t.tfine) (step { measuring with tfine := 0 }) = some 128422 :=
  ⟨notRst_of_idle rfl, by decide +kernel⟩

end Sys2Proof.Tests
end

section
/-! What a compensation command does on a signed overflow under OVERFLOW_POLICY = fault (spec 00_scope.md R13,
60_exceptions.md R256, R257): said once of a micro-operation, then of a command and of a step of MEAS built from one. -/

namespace Sys2Proof.Machine

/-! ## The policy -/

/-- The same state under OVERFLOW_POLICY = wrap. -/
def State.underWrap (s : State) : State := { s with cfg := { s.cfg with overflow := .wrap } }

@[simp] theorem arithFault_underWrap (s : State) (o : Bool) : arithFault s.underWrap.cfg o = false := rfl

theorem arithFault_of_fault {cfg : Params} (h : cfg.overflow = .fault) (o : Bool) : arithFault cfg o = o := by
  simp [arithFault, h]

/-! ## The compensation micro-operations in their turn, with the reference bodies -/

/-- The state in which a CMPT completes (R196). -/
def State.cmptDone (s : State) : State :=
  { s with tfine := (referenceBody.compT s.adcT s.cal.t).tfine.val, tX100 := (referenceBody.compT s.adcT s.cal.t).t.val,
           cyc := 2#3 }

/-- The state in which a CMPP completes (R203). -/
def State.cmppDone (s : State) : State :=
  { s with pX100 := (referenceBody.compP s.adcP s.tfine s.cal.p).val, cyc := 3#3 }

/-- The state in which a CMPH completes (R213). -/
def State.cmphDone (s : State) : State :=
  { s with hX1024 := (referenceBody.compH s.adcH s.tfine s.cal.h).val, cyc := 4#3 }

/-! The completions leave the policy alone. By rewriting, not by `rfl`, which would compare the bodies by evaluation. -/

theorem State.cmptDone_underWrap (s : State) : s.underWrap.cmptDone = s.cmptDone.underWrap := by
  simp only [State.cmptDone, State.underWrap]

theorem State.cmppDone_underWrap (s : State) : s.underWrap.cmppDone = s.cmppDone.underWrap := by
  simp only [State.cmppDone, State.underWrap]

theorem State.cmphDone_underWrap (s : State) : s.underWrap.cmphDone = s.cmphDone.underWrap := by
  simp only [State.cmphDone, State.underWrap]

@[simp] theorem State.cmptDone_cfg (s : State) : s.cmptDone.cfg = s.cfg := by simp only [State.cmptDone]

@[simp] theorem State.cmppDone_cfg (s : State) : s.cmppDone.cfg = s.cfg := by simp only [State.cmppDone]

@[simp] theorem State.cmphDone_cfg (s : State) : s.cmphDone.cfg = s.cfg := by simp only [State.cmphDone]

/-- CMPT decides by the overflows of R196. -/
theorem microCmpt_of_reference {s : State} (hb : s.cfg.compBody = .reference) (ha : s.calaValid = true)
    (hc : s.cyc = 1#3) :
    microCmpt s =
      if arithFault s.cfg (cmptOverflows s.adcT s.cal.t) then .raised .arith s else .done s.cmptDone := by
  simp only [microCmpt, readyT, hc, ha, hb, bodyOf, compT_ovf, State.cmptDone, beq_self_eq_true, Bool.and_self, if_true]

/-- CMPP decides by the overflows of R203. -/
theorem microCmpp_of_reference {s : State} (hb : s.cfg.compBody = .reference) (ha : s.calaValid = true)
    (hc : s.cyc = 2#3) :
    microCmpp s =
      if arithFault s.cfg (cmppOverflows s.adcP s.tfine s.cal.p) then .raised .arith s else .done s.cmppDone := by
  simp only [microCmpp, readyP, hc, ha, hb, bodyOf, compP_ovf, State.cmppDone, beq_self_eq_true, Bool.and_self, if_true]

/-- CMPH decides by the overflows of R213. -/
theorem microCmph_of_reference {s : State} (hb : s.cfg.compBody = .reference) (ha : s.calaValid = true)
    (hc : s.cyc = 3#3) (hv : s.calbValid = true) :
    microCmph s =
      if arithFault s.cfg (cmphOverflows s.adcH s.tfine s.cal.h) then .raised .arith s else .done s.cmphDone := by
  simp only [microCmph, readyH, calValid, hc, ha, hv, hb, bodyOf, compH_ovf, State.cmphDone, beq_self_eq_true,
    Bool.and_self, if_true]

/-! ## Raise on overflow, else complete as under wrap-around -/

/-- In `s` the micro-operation `op` raises ARITH where `o` says that it overflows; else it ends as under wrap-around, at
stage `c`. -/
def FaultsOnOverflow (op : State → MicroOut) (s : State) (o : Bool) (c : BitVec 3) : Prop :=
  if o = true then op s = .raised .arith s
  else ∃ d, op s = .done d ∧ op s.underWrap = .done d.underWrap ∧ d.cfg = s.cfg ∧ d.cyc = c

/-- Of a micro-operation that decides by `arithFault`, and whose completion does the same under either policy. -/
theorem faultsOnOverflow_of_decides {op : State → MicroOut} {done : State → State} {s : State} {o o' : Bool}
    (hf : s.cfg.overflow = .fault)
    (hs : op s = if arithFault s.cfg o then .raised .arith s else .done (done s))
    (hw : op s.underWrap =
      if arithFault s.underWrap.cfg o' then .raised .arith s.underWrap else .done (done s.underWrap))
    (hd : done s.underWrap = (done s).underWrap) (hcfg : (done s).cfg = s.cfg) :
    FaultsOnOverflow op s o (done s).cyc := by
  rw [arithFault_of_fault hf] at hs
  rw [arithFault_underWrap, if_neg Bool.false_ne_true, hd] at hw
  unfold FaultsOnOverflow
  split <;> rename_i ho
  · rw [hs, if_pos ho]
  · exact ⟨done s, hs.trans (if_neg ho), hw, hcfg, rfl⟩

section
variable {s : State} (hf : s.cfg.overflow = .fault) (hb : s.cfg.compBody = .reference) (ha : s.calaValid = true)
include hf hb ha

theorem microCmpt_faultsOnOverflow (hc : s.cyc = 1#3) :
    FaultsOnOverflow microCmpt s (cmptOverflows s.adcT s.cal.t) 2#3 :=
  faultsOnOverflow_of_decides (done := State.cmptDone) hf (microCmpt_of_reference hb ha hc)
    (microCmpt_of_reference (s := s.underWrap) hb ha hc) s.cmptDone_underWrap s.cmptDone_cfg

theorem microCmpp_faultsOnOverflow (hc : s.cyc = 2#3) :
    FaultsOnOverflow microCmpp s (cmppOverflows s.adcP s.tfine s.cal.p) 3#3 :=
  faultsOnOverflow_of_decides (done := State.cmppDone) hf (microCmpp_of_reference hb ha hc)
    (microCmpp_of_reference (s := s.underWrap) hb ha hc) s.cmppDone_underWrap s.cmppDone_cfg

theorem microCmph_faultsOnOverflow (hc : s.cyc = 3#3) (hv : s.calbValid = true) :
    FaultsOnOverflow microCmph s (cmphOverflows s.adcH s.tfine s.cal.h) 4#3 :=
  faultsOnOverflow_of_decides (done := State.cmphDone) hf (microCmph_of_reference hb ha hc hv)
    (microCmph_of_reference (s := s.underWrap) hb ha hc hv) s.cmphDone_underWrap s.cmphDone_cfg

end

/-- A host-issued command made of such a micro-operation: only ERR[4] changes, or it completes as under wrap-around. -/
theorem endCommand_faultsOnOverflow {op : State → MicroOut} {s : State} {o : Bool} {c : BitVec 3} (hr : AtRest s)
    (h : FaultsOnOverflow op s o c) :
    if o = true then endCommand (op s) = .next { s with err := s.err ||| 0b10000#5, busy := false }
    else ∃ t, endCommand (op s.underWrap) = .next t ∧ t.cyc = c ∧ endCommand (op s) = .next { t with cfg := s.cfg } := by
  unfold FaultsOnOverflow at h
  split at h <;> rename_i ho
  · rw [if_pos ho, h, endCommand, raiseErr_of_atRest hr]
    rfl
  · obtain ⟨d, hs, hw, hcfg, hc⟩ := h
    rw [if_neg ho, hw, hs, ← hcfg]
    exact ⟨finish d.underWrap, rfl, hc, rfl⟩

/-- A step of MEAS made of such a micro-operation: it leaves MEAS with only ERR[4] set, or goes on to index `k` as under
wrap-around. -/
theorem measStep_faultsOnOverflow {op : State → MicroOut} {s : State} {o : Bool} {c k : BitVec 3}
    (hu : upcProg s.upc ≠ 0#2) (hp : s.polling = false) (hs : step s = toStep progMeas k (op s))
    (hw : step s.underWrap = toStep progMeas k (op s.underWrap)) (h : FaultsOnOverflow op s o c) :
    if o = true then step s = .next { s with err := s.err ||| 0b10000#5, upc := 0#5, busy := false }
    else ∃ t, step s.underWrap = .next t ∧ t.cyc = c ∧ t.upc = upcOf progMeas k ∧
      step s = .next { t with cfg := s.cfg } := by
  unfold FaultsOnOverflow at h
  rw [hs, hw]
  split at h <;> rename_i ho
  · rw [if_pos ho, h, toStep, raiseErr_of_running hu, ← hp]
    rfl
  · obtain ⟨d, hds, hdw, hcfg, hc⟩ := h
    rw [if_neg ho, hdw, hds, ← hcfg]
    exact ⟨{ d.underWrap with upc := upcOf progMeas k }, rfl, hc, rfl, rfl⟩

/-! ## The steps M3, M4 and M5 of MEAS (R172) -/

section
variable {s : State} (hn : NoRstNext s) (hb : s.busy = true)
include hn hb

theorem step_measCmpt (hu : s.upc = 0b10011#5) : step s = toStep progMeas 4#3 (microCmpt s) :=
  (step_of_busy hb hn).trans (runBusy_meas 3 hu)

theorem step_measCmpp (hu : s.upc = 0b10100#5) : step s = toStep progMeas 5#3 (microCmpp s) :=
  (step_of_busy hb hn).trans (runBusy_meas 4 hu)

theorem step_measCmph (hu : s.upc = 0b10101#5) : step s = toStep progMeas 6#3 (microCmph s) :=
  (step_of_busy hb hn).trans (runBusy_meas 5 hu)

end

/-- Settles O43: each of the three micro-operations faults on the overflows listed for its body, and a command or a step of
MEAS ends as its micro-operation does. -/
theorem overflowRaisesArith : Obligations.OverflowRaisesArith := by
  unfold Obligations.OverflowRaisesArith
  constructor
  · intro s hr hf hb ha
    refine ⟨fun hc => ?_, fun hc => ?_, fun hc hv => ?_⟩
    · exact endCommand_faultsOnOverflow hr (microCmpt_faultsOnOverflow hf hb ha hc)
    · exact endCommand_faultsOnOverflow hr (microCmpp_faultsOnOverflow hf hb ha hc)
    · exact endCommand_faultsOnOverflow hr (microCmph_faultsOnOverflow hf hb ha hc hv)
  · intro s hn hbusy hp hf hb ha
    refine ⟨fun hu hc => ?_, fun hu hc => ?_, fun hu hc hv => ?_⟩
    · exact measStep_faultsOnOverflow (by rw [hu]; decide) hp (step_measCmpt hn hbusy hu)
        (step_measCmpt (s := s.underWrap) hn hbusy hu) (microCmpt_faultsOnOverflow hf hb ha hc)
    · exact measStep_faultsOnOverflow (by rw [hu]; decide) hp (step_measCmpp hn hbusy hu)
        (step_measCmpp (s := s.underWrap) hn hbusy hu) (microCmpp_faultsOnOverflow hf hb ha hc)
    · exact measStep_faultsOnOverflow (by rw [hu]; decide) hp (step_measCmph hn hbusy hu)
        (step_measCmph (s := s.underWrap) hn hbusy hu) (microCmph_faultsOnOverflow hf hb ha hc hv)

end Sys2Proof.Machine
end

section
/-! What a frame can do to the state, said once as one update of the bus side of the block, with the facts about that
update which the invariants need (spec 20_memory.md R75, 40_bus_transport.md R121 to R125, R130). -/

namespace Sys2Proof.Machine

/-! ## The samples of the device -/

theorem devTx_kind (cfg : Params) (b : Byte) (d : Device) : (devTx cfg b d).kind = d.kind := by
  unfold devTx
  split
  · split
    · rfl
    · exact devStore_kind cfg b d
  · rfl

@[simp] theorem devObserve_kind (cfg : Params) (e : BusEvent) (d : Device) : (devObserve cfg e d).kind = d.kind := by
  unfold devObserve
  split
  · rfl
  · exact devTx_kind ..
  · exact devEndFrame_kind ..
  · rfl

/-- No sample is left over, if the device is of the oracle kind: it never has one to store, where a reference device may
have one until the frame ends (R78). -/
def OracleSettled (d : Device) : Prop := d.kind = .oracle → d.sampleDue = false

theorem OracleSettled.observe {cfg : Params} {e : BusEvent} {d : Device} (h : OracleSettled d) :
    OracleSettled (devObserve cfg e d) := by
  intro hk
  rw [devObserve_kind] at hk
  rw [devObserve_of_oracle hk]
  exact h hk

theorem OracleSettled.oracle {s : State} (h : OracleSettled s.dev) : OracleSettled (oracle s).2.dev := by
  intro hk
  unfold Machine.oracle at *
  split at hk
  · exact absurd (hk.symm.trans (devAfterRx_kind ..)) (by simp [*])
  · split <;> exact h ‹_›

theorem OracleSettled.recvBytes {s : State} (h : OracleSettled s.dev) (n : Nat) :
    OracleSettled (recvBytes n s).2.dev := by
  induction n generalizing s with
  | zero => exact h
  | succ n ih => exact ih (s := (recvByte s).2) h.oracle.observe

theorem OracleSettled.select {s : State} (h : OracleSettled s.dev) : OracleSettled (select s).dev :=
  h.observe.observe

theorem OracleSettled.deselect {s : State} (h : OracleSettled s.dev) : (deselect s).dev.sampleDue = false := by
  cases hk : s.dev.kind with
  | oracle => rw [deselect_dev_of_oracle hk]; exact h hk
  | reference => rw [deselect_of_reference hk]; exact devEndFrame_sampleDue ..

/-- After a write frame no sample is left over (R78). -/
theorem sendFrame_sampleDue {s : State} (h : OracleSettled s.dev) (w d : Byte) :
    (sendFrame w d s).dev.sampleDue = false := by
  show (devObserve _ (.dly .post) _).sampleDue = false
  rw [devObserve_dly]
  exact OracleSettled.deselect h.select.observe.observe

/-- After a read frame no sample is left over (R78). -/
theorem readFrame_sampleDue {s : State} (h : OracleSettled s.dev) (w : Byte) (n : Nat) :
    (readFrame w n s).2.dev.sampleDue = false :=
  OracleSettled.deselect (s := storeRx _ _)
    (OracleSettled.recvBytes (s := sendByte w (Machine.select s)) h.select.observe n)

/-! ## The bus side of the state -/

/-- The fields a frame can write, but CSN. -/
structure BusSide where
  sdo : Byte
  rxbuf : List Byte
  rxHigh : Nat
  hist : List BusEvent
  dev : Device
  draws : Nat

/-- The block after a frame: CSN is 1 again, and the bus side is `b`. -/
def State.withBus (s : State) (b : BusSide) : State :=
  { s with csn := true, sdo := b.sdo, rxbuf := b.rxbuf, rxHigh := b.rxHigh, hist := b.hist, dev := b.dev, draws := b.draws }

/-- The bus side of a state. -/
def State.busSide (s : State) : BusSide :=
  { sdo := s.sdo, rxbuf := s.rxbuf, rxHigh := s.rxHigh, hist := s.hist, dev := s.dev, draws := s.draws }

/-- Complete frames take the bus side of `s` to `b`: HIST is extended by them, the receive buffer keeps its length, and the
device its canonical memory and no sample left over. -/
structure BusMove (s : State) (b : BusSide) : Prop where
  frames : ∃ es, framesComplete (rxbufLen s.cfg) es ∧ b.hist = s.hist ++ es
  buffer : s.rxbuf.length = rxbufLen s.cfg → b.rxbuf.length = rxbufLen s.cfg
  written : s.rxHigh ≤ rxbufLen s.cfg → b.rxHigh ≤ rxbufLen s.cfg
  memory : memWf s.dev.reg = true → memWf b.dev.reg = true
  settled : s.dev.sampleDue = false → b.dev.sampleDue = false

/-- No frame at all. -/
theorem BusMove.none {s : State} {b : BusSide} (hr : b.rxbuf = s.rxbuf) (hw : b.rxHigh = s.rxHigh) (hh : b.hist = s.hist)
    (hd : b.dev = s.dev) : BusMove s b where
  frames := ⟨[], rfl, by rw [hh, List.append_nil]⟩
  buffer h := hr ▸ h
  written h := hw ▸ h
  memory h := hd ▸ h
  settled h := hd ▸ h

/-- A delay between two polls after the frames. -/
theorem BusMove.delay {s : State} {b : BusSide} (h : BusMove s b) :
    BusMove s { b with hist := b.hist ++ [.dly .poll] } where
  frames := by
    obtain ⟨es, hf, he⟩ := h.frames
    exact ⟨es ++ [.dly .poll], framesComplete_append hf (framesComplete_delay _), by rw [he, List.append_assoc]⟩
  buffer := h.buffer
  written := h.written
  memory := h.memory
  settled := h.settled

/-- A write frame is such a move. -/
theorem sendFrame_busMove (w d : Byte) (s : State) (hw : w.getLsbD 7 = false) :
    ∃ b, sendFrame w d s = s.withBus b ∧ BusMove s b :=
  ⟨{ sdo := d, rxbuf := s.rxbuf, rxHigh := s.rxHigh, hist := s.hist ++ writeEvents w d, dev := (sendFrame w d s).dev,
     draws := s.draws },
   sendFrame_eq w d s,
   { frames := ⟨_, framesComplete_write hw, rfl⟩
     buffer := id
     written := id
     memory := sendFrame_memWf
     settled := fun h => sendFrame_sampleDue (fun _ => h) w d }⟩

/-- A read frame that the receive buffer holds is such a move. -/
theorem readFrame_busMove (w : Byte) {n : Nat} (s : State) (hw : w.getLsbD 7 = true) (hn : n ≤ rxbufLen s.cfg) :
    ∃ b, (readFrame w n s).2 = s.withBus b ∧ BusMove s b :=
  ⟨{ sdo := _, rxbuf := (readFrame w n s).1 ++ s.rxbuf.drop n, rxHigh := max s.rxHigh n,
     hist := s.hist ++ readEvents w (readFrame w n s).1, dev := (readFrame w n s).2.dev,
     draws := (readFrame w n s).2.draws },
   readFrame_eq w n s,
   { frames := ⟨_, framesComplete_read hw (by simpa using hn), rfl⟩
     buffer := fun h => by simp [h]; omega
     written := fun h => max_le h hn
     memory := readFrame_memWf
     settled := fun h => readFrame_sampleDue (fun _ => h) w n }⟩

/-- The block's own bursts are such moves. -/
theorem busRead_busMove (a : Byte) {n : Nat} (hn : n ≤ 26) (s : State) :
    ∃ b, (busRead a n s).2 = s.withBus b ∧ BusMove s b :=
  readFrame_busMove (readByte a) s (readByte_bit7 a) (le_rxbufLen s.cfg hn)

end Sys2Proof.Machine
end

section
/-! What a micro-operation can do, said once for all of them: every invariant is a case analysis of `MicroEffect` (spec
40_bus_transport.md, 41_init_calibration.md, 42_measure.md, 43_compensation.md, 44_output.md, 60_exceptions.md R250 to
R257). -/

namespace Sys2Proof.Machine

/-! ## Results of the compensation bodies -/

/-- T-FINAL (R220), of any body. -/
theorem compT_final (c : BodyChoice) (adcT : BitVec 20) (k : TempCoeffs) :
    ((bodyOf c).compT adcT k).t.val =
      (asrS (addS (mulS (exact ((bodyOf c).compT adcT k).tfine.val) (const 5)) (const 128)) 8).val := by
  cases c <;> simp [bodyOf, referenceBody, otherBody, tempOfTerms]

/-- H-CLAMP (R220): the clamped accumulator is at most 419430400, which is 102400 after the shift. -/
theorem clampShift_le (w : Checked S32) : (clampShift w).val.toNat ≤ 102400 := by
  have h : ∀ c : Int, 0 ≤ c → c ≤ 419430400 → (s32 c >>> 12).toNat ≤ 102400 := by
    intro c h0 h1
    rw [BitVec.toNat_ushiftRight, s32, BitVec.toNat_ofInt, Nat.shiftRight_eq_div_pow]
    omega
  simp only [clampShift, lsrU_val, hClampMax]
  apply h <;> split <;> split <;> omega

theorem compH_le (c : BodyChoice) (adcH : BitVec 16) (tfine : S32) (k : HumCoeffs) :
    ((bodyOf c).compH adcH tfine k).val.toNat ≤ 102400 := by
  cases c <;> exact clampShift_le _

/-! ## Effects -/

/-- The state a micro-operation leaves. -/
def MicroOut.state : MicroOut → State
  | .done s => s
  | .again s => s
  | .raised _ s => s

@[simp] theorem MicroOut.state_done (s : State) : (MicroOut.done s).state = s := rfl
@[simp] theorem MicroOut.state_again (s : State) : (MicroOut.again s).state = s := rfl
@[simp] theorem MicroOut.state_raised (e : ErrCause) (s : State) : (MicroOut.raised e s).state = s := rfl

/-- Under these parameters an error can be raised: the identity, the poll limit and the overflow only by the hardening that
R250 names. -/
def CanRaise (cfg : Params) : ErrCause → Prop
  | .idMismatch => cfg.idStrict = true
  | .pollTimeout => cfg.pollLimit ≠ none
  | .badCmd => True
  | .badSeq => True
  | .arith => cfg.overflow = .fault

/-- The instructions that are one frame and nothing else. -/
def isFrame : Instr → Bool
  | .wireW _ _ => true
  | .wireR _ _ => true
  | .bwr _ _ => true
  | .brd _ _ => true
  | .wros => true
  | .wrhum => true
  | .wrctl => true
  | _ => false

/-- The micro-operation of the instruction `i`, or one iteration of its loop if that is POLL, can end so in `s`. -/
inductive MicroEffect (s : State) : Instr → MicroOut → Prop
  /-- It ends before it did anything. -/
  | refused {i e} (he : CanRaise s.cfg e) : MicroEffect s i (.raised e s)
  | frame {i b} (hi : isFrame i = true) (hb : BusMove s b) : MicroEffect s i (.done (s.withBus b))
  | rdid {b c} (hb : BusMove s b) : MicroEffect s .rdid (.done { s.withBus b with chipId := c, idSeen := true })
  | mismatch {b c} (hb : BusMove s b) (hs : s.cfg.idStrict = true) :
      MicroEffect s .rdid (.raised .idMismatch { s.withBus b with chipId := c, idSeen := true })
  | ldcala {b A} (hb : BusMove s b) (hv : s.calaValid = false) :
      MicroEffect s .ldcala (.done { s.withBus b with cal := calAfterA s.cfg.h1Src A s.cal, calaValid := true })
  | ldcalb {b B} (hb : BusMove s b) (hv : s.calbValid = false) :
      MicroEffect s .ldcalb (.done { s.withBus b with cal := calAfterB s.cfg.h1Src B s.cal, calbValid := true })
  | polled {b n} (hb : BusMove s b) : MicroEffect s .poll (.done { s.withBus b with pollCnt := n, polling := false })
  /-- Outside its loop POLL starts only in an initialized block. -/
  | pollsAgain {b n} (hb : BusMove s b) (hd : s.polling = true ∨ s.initDone = true) :
      MicroEffect s .poll (.again { s.withBus b with pollCnt := n, polling := true })
  | timeout {b n} (hb : BusMove s b) (hl : s.cfg.pollLimit ≠ none) :
      MicroEffect s .poll (.raised .pollTimeout { s.withBus b with pollCnt := n })
  | rdraw {b p t h} (hb : BusMove s b) (hd : s.initDone = true) :
      MicroEffect s .rdraw (.done { s.withBus b with adcP := p, adcT := t, adcH := h, cyc := 1#3 })
  | cmpt {x y} (hc : s.cyc = 1#3)
      (hy : y = (asrS (addS (mulS (exact x) (const 5)) (const 128)) 8).val) :
      MicroEffect s .cmpt (.done { s with tfine := x, tX100 := y, cyc := 2#3 })
  | cmpp {p} (hc : s.cyc = 2#3) : MicroEffect s .cmpp (.done { s with pX100 := p, cyc := 3#3 })
  | cmph {h} (hc : s.cyc = 3#3) (hh : h.toNat ≤ 102400) :
      MicroEffect s .cmph (.done { s with hX1024 := h, cyc := 4#3 })
  | scale {t p h} (hc : s.cyc = 4#3) :
      MicroEffect s .scale (.done { s with measValid := false, mT := .real t, mP := .real p, mH := .real h, cyc := 5#3 })
  | alt {v} (hc : s.cyc = 5#3) :
      MicroEffect s .alt (.done { s with mAlt := v, draws := s.draws + 1, measValid := true, cyc := 6#3 })

/-! ## Each micro-operation has its effect -/

theorem sendFrame_effect {i : Instr} (hi : isFrame i = true) {w : Byte} (hw : w.getLsbD 7 = false) (d : Byte) (s : State) :
    MicroEffect s i (.done (sendFrame w d s)) := by
  obtain ⟨b, h, hb⟩ := sendFrame_busMove w d s hw
  exact h ▸ .frame hi hb

theorem readFrame_effect {i : Instr} (hi : isFrame i = true) {w : Byte} (hw : w.getLsbD 7 = true) {n : Nat} {s : State}
    (hn : n ≤ rxbufLen s.cfg) : MicroEffect s i (.done (readFrame w n s).2) := by
  obtain ⟨b, h, hb⟩ := readFrame_busMove w s hw hn
  exact h ▸ .frame hi hb

theorem microRdid_effect (s : State) : MicroEffect s .rdid (microRdid s) := by
  obtain ⟨b, h, hb⟩ := busRead_busMove s.cfg.addrId (n := lenId) (by decide) s
  simp only [microRdid, h, Bool.and_eq_true]
  split
  · rename_i hs
    exact .mismatch hb hs.1
  · exact .rdid hb

theorem microLdcala_effect (s : State) : MicroEffect s .ldcala (microLdcala s) := by
  obtain ⟨b, h, hb⟩ := busRead_busMove s.cfg.addrCalA (n := lenCalA) (by decide) s
  simp only [microLdcala, h]
  split
  · exact .refused trivial
  · exact .ldcala hb (Bool.eq_false_iff.mpr ‹_›)

theorem microLdcalb_effect (s : State) : MicroEffect s .ldcalb (microLdcalb s) := by
  obtain ⟨b, h, hb⟩ := busRead_busMove s.cfg.addrCalB (n := lenCalB) (by decide) s
  simp only [microLdcalb, h]
  split
  · exact .refused trivial
  · exact .ldcalb hb (Bool.eq_false_iff.mpr ‹_›)

/-- An exhausted poll loop has a limit (R253). -/
theorem pollLimit_of_exhausted {s : State} (h : pollExhausted s = true) : s.cfg.pollLimit ≠ none := by
  intro hn
  simp [pollExhausted, hn] at h

/-- One iteration of the poll loop, whatever POLL_CNT was before it. -/
theorem microPollOnce_effect {s : State} (hd : s.polling = true ∨ s.initDone = true) (c : Nat) :
    MicroEffect s .poll (microPollOnce { s with pollCnt := c }) := by
  obtain ⟨b, h, hb⟩ := busRead_busMove s.cfg.addrStatus (n := lenStatus) (by decide) { s with pollCnt := c }
  have hb : BusMove s b := ⟨hb.frames, hb.buffer, hb.written, hb.memory, hb.settled⟩
  simp only [microPollOnce, h]
  split
  · split
    · have hl := pollLimit_of_exhausted ‹_›
      exact .timeout hb hl
    · simp only [emit, devObserve_dly]
      exact .pollsAgain hb.delay hd
  · exact .polled hb

theorem microPoll_effect (s : State) : MicroEffect s .poll (microPoll s) := by
  unfold microPoll
  split
  · exact microPollOnce_effect (.inr ‹_›) 0
  · exact .refused trivial

theorem microRdraw_effect (s : State) : MicroEffect s .rdraw (microRdraw s) := by
  obtain ⟨b, h, hb⟩ := busRead_busMove s.cfg.addrData (n := lenData) (by decide) s
  simp only [microRdraw, h]
  split
  · exact .rdraw hb ‹_›
  · exact .refused trivial

theorem canRaise_arith {cfg : Params} {o : Bool} (h : arithFault cfg o = true) : CanRaise cfg .arith := by
  simp only [arithFault, Bool.and_eq_true, beq_iff_eq] at h
  exact h.1

theorem microCmpt_effect (s : State) : MicroEffect s .cmpt (microCmpt s) := by
  simp only [microCmpt, readyT, Bool.and_eq_true, beq_iff_eq]
  split
  · split
    · exact .refused (canRaise_arith ‹_›)
    · exact .cmpt (‹_ ∧ _›).1 (compT_final ..)
  · exact .refused trivial

theorem microCmpp_effect (s : State) : MicroEffect s .cmpp (microCmpp s) := by
  simp only [microCmpp, readyP, Bool.and_eq_true, beq_iff_eq]
  split
  · split
    · exact .refused (canRaise_arith ‹_›)
    · exact .cmpp (‹_ ∧ _›).1
  · exact .refused trivial

theorem microCmph_effect (s : State) : MicroEffect s .cmph (microCmph s) := by
  simp only [microCmph, readyH, Bool.and_eq_true, beq_iff_eq]
  split
  · split
    · exact .refused (canRaise_arith ‹_›)
    · exact .cmph (‹_ ∧ _›).1 (compH_le ..)
  · exact .refused trivial

theorem microScale_effect (s : State) : MicroEffect s .scale (microScale s) := by
  simp only [microScale, readyScale, beq_iff_eq]
  split
  · exact .scale ‹_›
  · exact .refused trivial

theorem microAlt_effect (s : State) : MicroEffect s .alt (microAlt s) := by
  simp only [microAlt, readyAlt, beq_iff_eq]
  split
  · exact .alt ‹_›
  · exact .refused trivial

theorem microWros_effect (s : State) : MicroEffect s .wros (microWros s) :=
  sendFrame_effect rfl (writeByte_bit7 _) _ s

theorem microWrhum_effect (s : State) : MicroEffect s .wrhum (microWrhum s) :=
  sendFrame_effect rfl (writeByte_bit7 _) _ s

theorem microWrctl_effect (s : State) : MicroEffect s .wrctl (microWrctl s) :=
  sendFrame_effect rfl (writeByte_bit7 _) _ s

/-- A host-issued read frame is refused, or it fits (R129). -/
theorem readCommand_effect {i : Instr} (hi : isFrame i = true) {w : Byte} (hw : w.getLsbD 7 = true) (n : Byte) (s : State) :
    ∃ o, MicroEffect s i o ∧
      (if burstFits (rxbufLen s.cfg) n then endCommand (.done (readFrame w n.toNat s).2)
        else endCommand (.raised .badCmd s)) = endCommand o := by
  split
  · exact ⟨_, readFrame_effect hi hw (by simpa [burstFits] using ‹burstFits _ _ = true›), rfl⟩
  · exact ⟨_, .refused (e := .badCmd) trivial, rfl⟩

theorem frameByte_bit7 (b : BitVec 1) (a : BitVec 7) : (b ++ a).getLsbD 7 = b.getLsbD 0 := by
  revert b a; decide

/-- An instruction other than the two that run a micro-program ends as its micro-operation does. -/
theorem exec_effect {i : Instr} (hi : ∀ m, i ≠ .init m) (hm : i ≠ .meas) (s : State) :
    ∃ o, MicroEffect s i o ∧ exec i s = endCommand o := by
  cases i with
  | wireW a d => exact ⟨_, sendFrame_effect rfl (frameByte_bit7 0#1 a) d s, rfl⟩
  | wireR a n => exact readCommand_effect rfl (frameByte_bit7 1#1 a) n s
  | bwr a d => exact ⟨_, sendFrame_effect rfl (writeByte_bit7 a) d s, rfl⟩
  | brd a n => exact readCommand_effect rfl (readByte_bit7 a) n s
  | init m => exact absurd rfl (hi m)
  | meas => exact absurd rfl hm
  | rdid => exact ⟨_, microRdid_effect s, rfl⟩
  | ldcala => exact ⟨_, microLdcala_effect s, rfl⟩
  | ldcalb => exact ⟨_, microLdcalb_effect s, rfl⟩
  | wros => exact ⟨_, microWros_effect s, rfl⟩
  | wrhum => exact ⟨_, microWrhum_effect s, rfl⟩
  | wrctl => exact ⟨_, microWrctl_effect s, rfl⟩
  | poll => exact ⟨_, microPoll_effect s, rfl⟩
  | rdraw => exact ⟨_, microRdraw_effect s, rfl⟩
  | cmpt => exact ⟨_, microCmpt_effect s, rfl⟩
  | cmpp => exact ⟨_, microCmpp_effect s, rfl⟩
  | cmph => exact ⟨_, microCmph_effect s, rfl⟩
  | scale => exact ⟨_, microScale_effect s, rfl⟩
  | alt => exact ⟨_, microAlt_effect s, rfl⟩

end Sys2Proof.Machine
end

section
/-! What one step can do: which rule it follows (`StepCase`), and, for what does not depend on the rule, that every step but
RST is a sequence of three kinds of moves (`Moves`; spec 10_state.md R40, R41, 41_init_calibration.md R160, 42_measure.md
R172 to R174, 60_exceptions.md R254 to R256). -/

namespace Sys2Proof.Machine

/-! ## The micro-programs as lists of instructions -/

/-- The steps I0 to I5 of INIT (R160). -/
def initInstr : Fin 6 → Instr := ![.rdid, .ldcala, .ldcalb, .wros, .wrhum, .wrctl]

/-- The steps M0 to M7 of MEAS (R172). -/
def measInstr : Fin 8 → Instr := ![.wrctl, .poll, .rdraw, .cmpt, .cmpp, .cmph, .scale, .alt]

/-- UPC at the step `k` of a micro-program (R40). -/
def upcAt (prog : BitVec 2) (k : Nat) : BitVec 5 := upcOf prog (BitVec.ofNat 3 k)

/-- What UPC can say (R40). -/
theorem upc_cases (u : BitVec 5) :
    (∃ k : Fin 6, u = upcAt progInit k) ∨ (∃ k : Fin 8, u = upcAt progMeas k) ∨ upcProg u = 0#2 ∨
      (upcProg u ≠ progMeas ∧ upcProg u ≠ 0#2 ∧ (upcProg u = progInit → 6 ≤ (upcIdx u).toNat)) := by
  revert u; decide

theorem upcProg_upcOf (p : BitVec 2) (k : BitVec 3) : upcProg (upcOf p k) = p := by revert p k; decide

theorem upcIdx_upcOf (p : BitVec 2) (k : BitVec 3) : upcIdx (upcOf p k) = k := by revert p k; decide

/-! ## A busy block -/

/-- How the running command goes on from `s` to `t`. -/
inductive RunCase (s t : State) : Prop
  | initStep (k : Fin 5) {o} (hu : s.upc = upcAt progInit k) (he : MicroEffect s (initInstr k.castSucc) o)
      (ht : toStep progInit (BitVec.ofNat 3 (k + 1)) o = .next t)
  | initLast {o} (hu : s.upc = upcAt progInit 5) (he : MicroEffect s .wrctl o) (ht : endInit o = .next t)
  /-- M0 outside Forced mode (R173). -/
  | measSkip (hu : s.upc = upcAt progMeas 0) (ht : t = { s with upc := upcAt progMeas 2 })
  | measStep (k : Fin 7) {o} (hu : s.upc = upcAt progMeas k) (he : MicroEffect s (measInstr k.castSucc) o)
      (ht : toStep progMeas (BitVec.ofNat 3 (k + 1)) o = .next t)
  | measLast {o} (hu : s.upc = upcAt progMeas 7) (he : MicroEffect s .alt o) (ht : endMeas o = .next t)
  /-- The loop of a host-issued POLL. -/
  | pollLoop {o} (hu : upcProg s.upc = 0#2) (hp : s.polling = true) (he : MicroEffect s .poll o)
      (ht : endCommand o = .next t)

/-- Where UPC names no step the block stops (log 10). -/
theorem runBusy_reserved {s : State} (hm : upcProg s.upc ≠ progMeas) (h0 : upcProg s.upc ≠ 0#2)
    (hi : upcProg s.upc = progInit → 6 ≤ (upcIdx s.upc).toNat) : runBusy s = .fault .reservedUpc := by
  by_cases hp : upcProg s.upc = progInit
  · have h6 := hi hp
    rw [runBusy, if_pos hp, runInit]
    split <;> [omega; omega; omega; omega; omega; omega; rfl]
  · simp [runBusy, hp, hm, h0]

theorem measPoll_effect (s : State) :
    MicroEffect s .poll (if s.polling then microPollOnce s else microPoll s) := by
  split
  · exact microPollOnce_effect (.inl ‹_›) s.pollCnt
  · exact microPoll_effect s

theorem runInit_case {s t : State} (k : Fin 6) (hu : s.upc = upcAt progInit k) (h : runBusy s = .next t) :
    RunCase s t := by
  rw [runBusy_init k hu] at h
  match k with
  | 0 => exact .initStep 0 hu (microRdid_effect s) h
  | 1 => exact .initStep 1 hu (microLdcala_effect s) h
  | 2 => exact .initStep 2 hu (microLdcalb_effect s) h
  | 3 => exact .initStep 3 hu (microWros_effect s) h
  | 4 => exact .initStep 4 hu (microWrhum_effect s) h
  | 5 => exact .initLast hu (microWrctl_effect s) h

theorem measRearm_case {s t : State} (hu : s.upc = upcAt progMeas 0) (h : measRearm s = .next t) : RunCase s t := by
  unfold measRearm at h
  split at h
  · exact .measStep 0 hu (microWrctl_effect s) h
  · cases h
    exact .measSkip hu rfl

theorem runMeas_case {s t : State} (k : Fin 8) (hu : s.upc = upcAt progMeas k) (h : runBusy s = .next t) :
    RunCase s t := by
  rw [runBusy_meas k hu] at h
  match k with
  | 0 => exact measRearm_case hu h
  | 1 => exact .measStep 1 hu (measPoll_effect s) h
  | 2 => exact .measStep 2 hu (microRdraw_effect s) h
  | 3 => exact .measStep 3 hu (microCmpt_effect s) h
  | 4 => exact .measStep 4 hu (microCmpp_effect s) h
  | 5 => exact .measStep 5 hu (microCmph_effect s) h
  | 6 => exact .measStep 6 hu (microScale_effect s) h
  | 7 => exact .measLast hu (microAlt_effect s) h

theorem runPoll_case {s t : State} (hu : upcProg s.upc = 0#2) (h : runBusy s = .next t) : RunCase s t := by
  have h1 : ¬(0#2 = progInit) ∧ ¬(0#2 = progMeas) := by decide
  simp only [runBusy, hu, h1, if_false, true_and] at h
  split at h
  · exact .pollLoop hu ‹_› (microPollOnce_effect (.inl ‹_›) s.pollCnt) h
  · cases h

theorem runBusy_case {s t : State} (h : runBusy s = .next t) : RunCase s t := by
  rcases upc_cases s.upc with ⟨k, hu⟩ | ⟨k, hu⟩ | hu | ⟨hm, h0, hi⟩
  · exact runInit_case k hu h
  · exact runMeas_case k hu h
  · exact runPoll_case hu h
  · rw [runBusy_reserved hm h0 hi] at h
    cases h

/-! ## Any block -/

/-- How a step leads from `s` to `t`. -/
inductive StepCase (s t : State) : Prop
  | rst {h} (hh : s.host = .rst 0 :: h) (ht : t = applyRst h s)
  | idle {h} (hb : s.busy = false) (ht : t = { s with host := h })
  /-- An illegal word, or a micro-program that must not start. -/
  | refused {h e} (hb : s.busy = false) (he : e = .badCmd ∨ e = .badSeq)
      (ht : t = raiseErr e { s with busy := true, host := h })
  | init {r h m} (hb : s.busy = false) (hd : s.initDone = false) (hh : s.host = .present r :: h)
      (hr : decode (rxbufLen s.cfg) r = .ok (.init m))
      (ht : t = { s with busy := true, host := h, mode := m, upc := upcAt progInit 0 })
  | meas {h} (hb : s.busy = false) (hd : s.initDone = true)
      (ht : t = { s with busy := true, host := h, upc := upcAt progMeas 0 })
  | command {r h i o} (hb : s.busy = false) (hh : s.host = .present r :: h) (hr : decode (rxbufLen s.cfg) r = .ok i)
      (he : MicroEffect { s with busy := true, host := h } i o) (ht : endCommand o = .next t)
  | runs {h} (hb : s.busy = true) (hr : RunCase { s with host := h } t)

theorem execInit_case {s t : State} {r : Request} {h : List HostInput} {m : BitVec 2} (hb : s.busy = false)
    (hh : s.host = .present r :: h) (hr : decode (rxbufLen s.cfg) r = .ok (.init m))
    (ht : execInit m { s with busy := true, host := h } = .next t) : StepCase s t := by
  unfold execInit at ht
  split at ht
  · cases ht; exact .refused hb (.inl rfl) rfl
  · split at ht
    · cases ht; exact .refused hb (.inr rfl) rfl
    · cases ht; exact .init hb (Bool.eq_false_iff.mpr ‹_›) hh hr rfl

theorem execMeas_case {s t : State} {h : List HostInput} (hb : s.busy = false)
    (ht : execMeas { s with busy := true, host := h } = .next t) : StepCase s t := by
  unfold execMeas at ht
  split at ht
  · cases ht; exact .meas hb ‹_› rfl
  · cases ht; exact .refused hb (.inr rfl) rfl

theorem accept_case {s t : State} {r : Request} {h : List HostInput} (hb : s.busy = false)
    (hh : s.host = .present r :: h) (ht : accept r { s with host := h } = .next t) : StepCase s t := by
  rcases accept_cases r { s with host := h } with ⟨i, hr, ha⟩ | ⟨-, ha⟩ <;> rw [ha] at ht
  · by_cases hi : ∃ m, i = .init m
    · obtain ⟨m, rfl⟩ := hi
      exact execInit_case hb hh hr ht
    · by_cases hm : i = .meas
      · subst hm
        exact execMeas_case hb ht
      · obtain ⟨o, he, ho⟩ := exec_effect (fun m e => hi ⟨m, e⟩) hm { s with busy := true, host := h }
        exact .command hb hh hr he (ho ▸ ht)
  · cases ht
    exact .refused hb (.inl rfl) rfl

/-- Every step that has a next state follows one of these rules. -/
theorem step_case {s t : State} (h : step s = .next t) : StepCase s t := by
  rcases step_cases s with ⟨r, hh, hs⟩ | ⟨hb, r, hs⟩ | ⟨hb, q, r, hh, hs⟩ | ⟨hb, r, hs⟩ <;> rw [hs] at h
  · cases h; exact .rst hh rfl
  · exact .runs hb (runBusy_case h)
  · exact accept_case hb hh h
  · cases h; exact .idle hb rfl

/-! ## The end of a micro-operation -/

/-- A micro-operation has ended, and the control registers say so. -/
inductive Ends : MicroOut → State → Prop
  | done (r : State) (upc busy initDone) : Ends (.done r) { r with upc := upc, busy := busy, initDone := initDone }
  | again (r : State) (busy) : Ends (.again r) { r with busy := busy }
  | raised (e) (r : State) : Ends (.raised e r) (raiseErr e r)

theorem ends_of_endCommand {o : MicroOut} {t : State} (h : endCommand o = .next t) : Ends o t := by
  cases o <;> cases h
  · exact .done _ _ _ _
  · exact .again _ _
  · exact .raised _ _

theorem ends_of_toStep {p : BitVec 2} {k : BitVec 3} {o : MicroOut} {t : State} (h : toStep p k o = .next t) :
    Ends o t := by
  cases o <;> cases h
  · exact .done _ _ _ _
  · exact .again _ _
  · exact .raised _ _

theorem ends_of_endInit {o : MicroOut} {t : State} (h : endInit o = .next t) : Ends o t := by
  cases o <;> cases h
  · exact .done _ _ _ _
  · exact .again _ _
  · exact .raised _ _

theorem ends_of_endMeas {o : MicroOut} {t : State} (h : endMeas o = .next t) : Ends o t := by
  cases o <;> cases h
  · exact .done _ _ _ _
  · exact .again _ _
  · exact .raised _ _

/-- A running command skips M0, or executes a micro-operation; a CMPT only at M3. -/
theorem RunCase.ends {s t : State} (h : RunCase s t) :
    (∃ u, t = { s with upc := u }) ∨
      ∃ i o, MicroEffect s i o ∧ Ends o t ∧ (i = .cmpt → s.upc = 0b10011#5) := by
  cases h with
  | initStep k hu he ht =>
    have hi : ∀ k : Fin 5, initInstr k.castSucc ≠ .cmpt := by decide
    exact .inr ⟨_, _, he, ends_of_toStep ht, fun e => absurd e (hi k)⟩
  | initLast hu he ht => exact .inr ⟨_, _, he, ends_of_endInit ht, nofun⟩
  | measSkip hu ht => exact .inl ⟨_, ht⟩
  | measStep k hu he ht =>
    have hi : ∀ k : Fin 7, measInstr k.castSucc = .cmpt → upcAt progMeas k = 0b10011#5 := by decide
    exact .inr ⟨_, _, he, ends_of_toStep ht, fun e => hu.trans (hi k e)⟩
  | measLast hu he ht => exact .inr ⟨_, _, he, ends_of_endMeas ht, nofun⟩
  | pollLoop hu hp he ht => exact .inr ⟨_, _, he, ends_of_endCommand ht, nofun⟩

/-! ## Moves -/

/-- What every step but RST is made of. -/
inductive Moves : State → State → Prop
  | control (s : State) (host busy upc polling initDone mode) :
      Moves s { s with host := host, busy := busy, upc := upc, polling := polling, initDone := initDone, mode := mode }
  | micro {s i o} (he : MicroEffect s i o) : Moves s o.state
  | raise {s e} (he : CanRaise s.cfg e) : Moves s (raiseErr e s)
  | trans {s r t} (h : Moves s r) (h' : Moves r t) : Moves s t

/-- A micro-operation raises only what the parameters allow. -/
theorem MicroEffect.raised_can {s r : State} {i : Instr} {e : ErrCause} (h : MicroEffect s i (.raised e r)) :
    CanRaise r.cfg e := by
  cases h with
  | refused he => exact he
  | mismatch hb hs => exact hs
  | timeout hb hl => exact hl

theorem MicroEffect.moves {s t : State} {i : Instr} {o : MicroOut} (h : MicroEffect s i o) (ht : Ends o t) :
    Moves s t := by
  refine (Moves.micro h).trans ?_
  cases ht with
  | done r => exact .control r _ _ _ _ _ _
  | again r => exact .control r _ _ _ _ _ _
  | raised e r => exact .raise h.raised_can

theorem RunCase.moves {s t : State} (h : RunCase s t) : Moves s t := by
  rcases h.ends with ⟨u, rfl⟩ | ⟨i, o, he, ht, -⟩
  · exact .control s _ _ _ _ _ _
  · exact he.moves ht

/-- Every step is an RST or a sequence of moves. -/
theorem step_rst_or_moves {s t : State} (h : step s = .next t) :
    (∃ h, s.host = .rst 0 :: h ∧ t = applyRst h s) ∨ Moves s t := by
  cases step_case h with
  | rst hh ht => exact .inl ⟨_, hh, ht⟩
  | idle hb ht => exact .inr (ht ▸ .control s _ _ _ _ _ _)
  | refused hb he ht =>
    subst ht
    refine .inr ((Moves.control s _ true s.upc s.polling s.initDone s.mode).trans (.raise ?_))
    rcases he with rfl | rfl <;> trivial
  | init hb hd hh hr ht => exact .inr (ht ▸ .control s _ _ _ _ _ _)
  | meas hb hd ht => exact .inr (ht ▸ .control s _ _ _ _ _ _)
  | command hb hh hr he ht =>
    exact .inr ((Moves.control s _ true s.upc s.polling s.initDone s.mode).trans (he.moves (ends_of_endCommand ht)))
  | runs hb hr => exact .inr ((Moves.control s _ s.busy s.upc s.polling s.initDone s.mode).trans hr.moves)

theorem step_moves {s t : State} (hn : NotRst s) (h : step s = .next t) : Moves s t :=
  (step_rst_or_moves h).resolve_left fun ⟨r, hh, _⟩ => hn r hh

end Sys2Proof.Machine
end

section
/-! What every step keeps of the parameters, the errors, the history, the calibration and the data: each an induction on the
moves of a step (spec 10_state.md R20 to R50, 60_exceptions.md R250). -/

namespace Sys2Proof.Machine

/-! ## Parameters (R35, R49) -/

theorem MicroEffect.cfg {s : State} {i : Instr} {o : MicroOut} (h : MicroEffect s i o) : o.state.cfg = s.cfg := by
  cases h <;> rfl

theorem Moves.cfg {s t : State} (h : Moves s t) : t.cfg = s.cfg := by
  induction h with
  | control => rfl
  | micro he => exact he.cfg
  | raise => rfl
  | trans h h' ih ih' => exact ih'.trans ih

/-- Settles O54: neither RST nor a move writes a parameter. -/
theorem parametersAreFixed : Obligations.ParametersAreFixed := by
  intro s t h
  rcases step_rst_or_moves h with ⟨r, -, rfl⟩ | hm
  · exact applyRst_cfg r s
  · exact hm.cfg

/-! ## Errors (R39, R250) -/

theorem MicroEffect.err {s : State} {i : Instr} {o : MicroOut} (h : MicroEffect s i o) : o.state.err = s.err := by
  cases h <;> rfl

theorem errSet_and_self (v : BitVec 5) (e : ErrCause) : errSet v e &&& v = v := by
  cases e <;> (revert v; decide)

theorem Moves.err_sticky {s t : State} (h : Moves s t) : t.err &&& s.err = s.err := by
  induction h with
  | control => exact BitVec.and_self
  | micro he => rw [he.err, BitVec.and_self]
  | raise => exact errSet_and_self _ _
  | @trans s r t h h' ih ih' =>
    calc t.err &&& s.err = t.err &&& (r.err &&& s.err) := by rw [ih]
      _ = r.err &&& s.err := by rw [← BitVec.and_assoc, ih']
      _ = s.err := ih

/-- Settles O52: a move sets bits of ERR and clears none. -/
theorem errorsAreSticky : Obligations.ErrorsAreSticky := fun _ _ hn h => (step_moves hn h).err_sticky

/-- The bits of ERR that only the hardening sets: IDMISMATCH, POLL_TIMEOUT and ARITH. -/
def SameHardeningErrors (v w : BitVec 5) : Prop :=
  v.getLsbD 0 = w.getLsbD 0 ∧ v.getLsbD 1 = w.getLsbD 1 ∧ v.getLsbD 4 = w.getLsbD 4

/-- The baseline raises BAD_CMD and BAD_SEQ only (R250). -/
theorem errSet_of_baseline {cfg : Params} {e : ErrCause} (hb : Baseline cfg) (he : CanRaise cfg e) (v : BitVec 5) :
    SameHardeningErrors (errSet v e) v := by
  obtain ⟨hid, hpoll, hovf⟩ := hb
  unfold SameHardeningErrors
  cases e with
  | idMismatch => exact absurd (hid.symm.trans he) (by decide)
  | pollTimeout => exact absurd hpoll he
  | badCmd => revert v; decide
  | badSeq => revert v; decide
  | arith => exact absurd (hovf.symm.trans he) (by decide)

theorem Moves.err_of_baseline {s t : State} (h : Moves s t) (hb : Baseline s.cfg) : SameHardeningErrors t.err s.err := by
  induction h with
  | control => exact ⟨rfl, rfl, rfl⟩
  | micro he => rw [he.err]; exact ⟨rfl, rfl, rfl⟩
  | raise he => exact errSet_of_baseline hb he _
  | trans h h' ih ih' =>
    obtain ⟨a, b, c⟩ := ih hb
    obtain ⟨a', b', c'⟩ := ih' (h.cfg ▸ hb)
    exact ⟨a'.trans a, b'.trans b, c'.trans c⟩

/-- Settles O53: what a move can raise in the baseline is BAD_CMD or BAD_SEQ. -/
theorem baselineRaisesOnlyRefusals : Obligations.BaselineRaisesOnlyRefusals :=
  fun _ _ hb hn h => (step_moves hn h).err_of_baseline hb

/-! ## The bus side and the history (R81) -/

/-- What a micro-operation does to the bus side of the block is frames. -/
theorem MicroEffect.busMove {s : State} {i : Instr} {o : MicroOut} (h : MicroEffect s i o) :
    BusMove s o.state.busSide := by
  cases h with
  | frame hi hb => exact hb
  | rdid hb => exact hb
  | mismatch hb hs => exact hb
  | ldcala hb hv => exact hb
  | ldcalb hb hv => exact hb
  | polled hb => exact hb
  | pollsAgain hb hd => exact hb
  | timeout hb hl => exact hb
  | rdraw hb hd => exact hb
  | _ => exact .none rfl rfl rfl rfl

theorem Moves.hist {s t : State} (h : Moves s t) : ∃ es, t.hist = s.hist ++ es := by
  induction h with
  | control => exact ⟨[], (List.append_nil _).symm⟩
  | micro he => exact he.busMove.frames.imp fun _ => And.right
  | raise => exact ⟨[], (List.append_nil _).symm⟩
  | trans h h' ih ih' =>
    obtain ⟨es, he⟩ := ih
    obtain ⟨fs, hf⟩ := ih'
    exact ⟨es ++ fs, by rw [hf, he, List.append_assoc]⟩

/-- Settles O58: a move extends HIST. -/
theorem historyOnlyGrows : Obligations.HistoryOnlyGrows := fun _ _ hn h => (step_moves hn h).hist

/-! ## Calibration (R21, R150, R152) -/

/-- From `s` to `t` the coefficients of a loaded block stay, and the block stays loaded. -/
structure CalKept (s t : State) : Prop where
  blockA : s.calaValid = true → t.calaValid = true ∧ t.cal.t = s.cal.t ∧ t.cal.p = s.cal.p
  blockB : s.calbValid = true → t.calbValid = true ∧ t.cal.h.h2 = s.cal.h.h2 ∧ t.cal.h.h3 = s.cal.h.h3 ∧
    t.cal.h.h4 = s.cal.h.h4 ∧ t.cal.h.h5 = s.cal.h.h5 ∧ t.cal.h.h6 = s.cal.h.h6
  h1 : h1Valid s = true → h1Valid t = true ∧ t.cal.h.h1 = s.cal.h.h1

theorem CalKept.trans {s r t : State} (h : CalKept s r) (h' : CalKept r t) : CalKept s t where
  blockA hv := by
    obtain ⟨hr, ht, hp⟩ := h.blockA hv
    obtain ⟨hr', ht', hp'⟩ := h'.blockA hr
    exact ⟨hr', ht'.trans ht, hp'.trans hp⟩
  blockB hv := by
    obtain ⟨hr, e2, e3, e4, e5, e6⟩ := h.blockB hv
    obtain ⟨hr', e2', e3', e4', e5', e6'⟩ := h'.blockB hr
    exact ⟨hr', e2'.trans e2, e3'.trans e3, e4'.trans e4, e5'.trans e5, e6'.trans e6⟩
  h1 hv := by
    obtain ⟨hr, e1⟩ := h.h1 hv
    obtain ⟨hr', e1'⟩ := h'.h1 hr
    exact ⟨hr', e1'.trans e1⟩

theorem CalKept.of_same {s t : State} (hcfg : t.cfg.h1Src = s.cfg.h1Src) (hcal : t.cal = s.cal)
    (ha : t.calaValid = s.calaValid) (hb : t.calbValid = s.calbValid) : CalKept s t where
  blockA h := ⟨ha.trans h, by rw [hcal], by rw [hcal]⟩
  blockB h := by rw [hcal]; exact ⟨hb.trans h, rfl, rfl, rfl, rfl, rfl⟩
  h1 h := ⟨by rw [← h]; unfold h1Valid; rw [hcfg, ha, hb], by rw [hcal]⟩

/-- Block A is loaded once, and H1 by it only where it names H1's byte. -/
theorem CalKept.loadA {s t : State} {A : List Byte} (hv : s.calaValid = false) (hcfg : t.cfg.h1Src = s.cfg.h1Src)
    (hcal : t.cal = calAfterA s.cfg.h1Src A s.cal) (hb : t.calbValid = s.calbValid) : CalKept s t where
  blockA h := absurd (hv.symm.trans h) (by decide)
  blockB h := by rw [hcal]; exact ⟨hb.trans h, rfl, rfl, rfl, rfl, rfl⟩
  h1 h := by
    rw [hcal]
    unfold h1Valid at *
    rw [hcfg]
    cases hs : s.cfg.h1Src with
    | blockA k => simp [hs, hv] at h
    | blockB k => simp only [hs] at h; exact ⟨hb.trans h, rfl⟩

/-- Block B is loaded once, and H1 by it only where it names H1's byte. -/
theorem CalKept.loadB {s t : State} {B : List Byte} (hv : s.calbValid = false) (hcfg : t.cfg.h1Src = s.cfg.h1Src)
    (hcal : t.cal = calAfterB s.cfg.h1Src B s.cal) (ha : t.calaValid = s.calaValid) : CalKept s t where
  blockA h := by rw [hcal]; exact ⟨ha.trans h, rfl, rfl⟩
  blockB h := absurd (hv.symm.trans h) (by decide)
  h1 h := by
    rw [hcal]
    unfold h1Valid at *
    rw [hcfg]
    cases hs : s.cfg.h1Src with
    | blockA k => simp only [hs] at h; exact ⟨ha.trans h, rfl⟩
    | blockB k => simp [hs, hv] at h

theorem MicroEffect.calKept {s : State} {i : Instr} {o : MicroOut} (h : MicroEffect s i o) : CalKept s o.state := by
  cases h with
  | ldcala hb hv => exact .loadA hv rfl rfl rfl
  | ldcalb hb hv => exact .loadB hv rfl rfl rfl
  | _ => exact .of_same rfl rfl rfl rfl

theorem Moves.calKept {s t : State} (h : Moves s t) : CalKept s t := by
  induction h with
  | control => exact .of_same rfl rfl rfl rfl
  | micro he => exact he.calKept
  | raise => exact .of_same rfl rfl rfl rfl
  | trans h h' ih ih' => exact ih.trans ih'

/-- Settles O55: a move loads a block only where it is not loaded yet. -/
theorem calibrationIsImmutable : Obligations.CalibrationIsImmutable := by
  intro s t hn h
  obtain ⟨ha, hb, h1⟩ := (step_moves hn h).calKept
  exact ⟨ha, hb, h1⟩

/-! ## Data (R20, R25, R26, R220, R233) -/

theorem unpackH4_lt (b0 b1 : Byte) : (unpackH4 b0 b1).toNat < 4096 := by
  have h0 := b0.isLt
  rw [unpackH4_toNat]
  omega

theorem unpackH5_lt (b1 b2 : Byte) : (unpackH5 b1 b2).toNat < 4096 := by
  have h1 := b1.isLt
  have h2 := b2.isLt
  rw [unpackH5_toNat]
  omega

section
variable {s : State} {i : Instr} {o : MicroOut} (h : MicroEffect s i o) (hs : DataOk s)
include h hs

/-- H4 and H5 are written by LDCALB only. -/
theorem MicroEffect.packed : o.state.calbValid = true →
    o.state.cal.h.h4.toNat < 4096 ∧ o.state.cal.h.h5.toNat < 4096 := by
  cases h with
  | ldcalb hb hv => exact fun _ => ⟨unpackH4_lt _ _, unpackH5_lt _ _⟩
  | _ => exact hs.packed

/-- TFINE and T_X100 are written together, by CMPT. -/
theorem MicroEffect.finalStep : 2 ≤ o.state.cyc.toNat →
    o.state.tX100 = (asrS (addS (mulS (exact o.state.tfine) (const 5)) (const 128)) 8).val := by
  cases h with
  | rdraw hb hd => exact fun hk => absurd hk (show ¬2 ≤ (1#3).toNat by decide)
  | cmpt hc hy => exact fun _ => hy
  | cmpp hc => exact fun _ => hs.finalStep (by rw [hc]; decide)
  | cmph hc hh => exact fun _ => hs.finalStep (by rw [hc]; decide)
  | scale hc => exact fun _ => hs.finalStep (by rw [hc]; decide)
  | alt hc => exact fun _ => hs.finalStep (by rw [hc]; decide)
  | _ => exact hs.finalStep

/-- H_X1024 is written by CMPH only. -/
theorem MicroEffect.humidity : 4 ≤ o.state.cyc.toNat → o.state.hX1024.toNat ≤ 102400 := by
  cases h with
  | rdraw hb hd => exact fun hk => absurd hk (show ¬4 ≤ (1#3).toNat by decide)
  | cmpt hc hy => exact fun hk => absurd hk (show ¬4 ≤ (2#3).toNat by decide)
  | cmpp hc => exact fun hk => absurd hk (show ¬4 ≤ (3#3).toNat by decide)
  | cmph hc hh => exact fun _ => hh
  | scale hc => exact fun _ => hs.humidity (by rw [hc]; decide)
  | alt hc => exact fun _ => hs.humidity (by rw [hc]; decide)
  | _ => exact hs.humidity

/-- M_T, M_P and M_H are written by SCALE only. -/
theorem MicroEffect.record : 5 ≤ o.state.cyc.toNat ∨ o.state.measValid = true →
    Flt.isReal o.state.mT ∧ Flt.isReal o.state.mP ∧ Flt.isReal o.state.mH := by
  cases h with
  | rdraw hb hd => exact fun hk => hs.record (.inr (hk.resolve_left (show ¬5 ≤ (1#3).toNat by decide)))
  | cmpt hc hy => exact fun hk => hs.record (.inr (hk.resolve_left (show ¬5 ≤ (2#3).toNat by decide)))
  | cmpp hc => exact fun hk => hs.record (.inr (hk.resolve_left (show ¬5 ≤ (3#3).toNat by decide)))
  | cmph hc hh => exact fun hk => hs.record (.inr (hk.resolve_left (show ¬5 ≤ (4#3).toNat by decide)))
  | scale hc => exact fun _ => ⟨⟨_, rfl⟩, ⟨_, rfl⟩, _, rfl⟩
  | alt hc => exact fun _ => hs.record (.inl (by rw [hc]; decide))
  | _ => exact hs.record

theorem MicroEffect.dataOk : DataOk o.state where
  buffer := by rw [h.cfg]; exact h.busMove.buffer hs.buffer
  written := by rw [h.cfg]; exact h.busMove.written hs.written
  packed := h.packed hs
  finalStep := h.finalStep hs
  humidity := h.humidity hs
  record := h.record hs
  memory := h.busMove.memory hs.memory
  settled := h.busMove.settled hs.settled

end

theorem Moves.dataOk {s t : State} (h : Moves s t) (hs : DataOk s) : DataOk t := by
  induction h with
  | control =>
    exact ⟨hs.buffer, hs.written, hs.packed, hs.finalStep, hs.humidity, hs.record, hs.memory, hs.settled⟩
  | micro he => exact he.dataOk hs
  | raise =>
    exact ⟨hs.buffer, hs.written, hs.packed, hs.finalStep, hs.humidity, hs.record, hs.memory, hs.settled⟩
  | trans h h' ih ih' => exact ih' (ih hs)

theorem rxbufNoValue_length (len : Nat) : (rxbufNoValue len).length = len := by simp [rxbufNoValue]

/-- After RST no guard is up, and the device is as it was. -/
theorem dataOk_applyRst {s : State} (hs : DataOk s) (h : List HostInput) : DataOk (applyRst h s) where
  buffer := rxbufNoValue_length _
  written := Nat.zero_le _
  packed hv := absurd hv Bool.false_ne_true
  finalStep hk := absurd hk (show ¬2 ≤ (0#3).toNat by decide)
  humidity hk := absurd hk (show ¬4 ≤ (0#3).toNat by decide)
  record hk := hk.elim (fun h5 => absurd h5 (show ¬5 ≤ (0#3).toNat by decide)) fun hv => absurd hv Bool.false_ne_true
  memory := hs.memory
  settled := hs.settled

/-- Settles O49: RST takes every guard down, and every move keeps the data. -/
theorem everyStepKeepsTheData : Obligations.EveryStepKeepsTheData := by
  intro s t hs h
  rcases step_rst_or_moves h with ⟨r, -, rfl⟩ | hm
  · exact dataOk_applyRst hs r
  · exact hm.dataOk hs

end Sys2Proof.Machine
end

section
/-! Every step keeps the control state: the flags by what each micro-operation does to them, then UPC, BUSY and the poll loop
rule by rule (spec 10_state.md R36, R37, R40, R41, 42_measure.md R172). -/

namespace Sys2Proof.Machine

/-! ## UPC at a step -/

@[simp] theorem upcProg_upcAt (p : BitVec 2) (k : Nat) : upcProg (upcAt p k) = p := upcProg_upcOf p _

theorem upcIdx_upcAt (p : BitVec 2) {k : Nat} (hk : k < 8) : (upcIdx (upcAt p k)).toNat = k := by
  rw [upcAt, upcIdx_upcOf, BitVec.toNat_ofNat, Nat.mod_eq_of_lt hk]

/-! ## What a micro-operation does to the control registers -/

theorem MicroEffect.upc {s : State} {i : Instr} {o : MicroOut} (h : MicroEffect s i o) : o.state.upc = s.upc := by
  cases h <;> rfl

theorem MicroEffect.busy {s : State} {i : Instr} {o : MicroOut} (h : MicroEffect s i o) : o.state.busy = s.busy := by
  cases h <;> rfl

theorem MicroEffect.initDone {s : State} {i : Instr} {o : MicroOut} (h : MicroEffect s i o) :
    o.state.initDone = s.initDone := by
  cases h <;> rfl

theorem MicroEffect.idSeen {s : State} {i : Instr} {o : MicroOut} (h : MicroEffect s i o) (hs : s.idSeen = true) :
    o.state.idSeen = true := by
  cases h with
  | rdid hb => rfl
  | mismatch hb hi => rfl
  | _ => exact hs

/-- CYC stays, or goes to a legal stage: of an initialized block, or of one that had reached a stage already. -/
theorem MicroEffect.stage {s : State} {i : Instr} {o : MicroOut} (h : MicroEffect s i o) :
    o.state.cyc = s.cyc ∨ o.state.cyc ≠ 7#3 ∧ (s.initDone = true ∨ s.cyc ≠ 0#3) := by
  cases h with
  | rdraw hb hd => exact .inr ⟨show 1#3 ≠ 7#3 by decide, .inl hd⟩
  | cmpt hc hy => exact .inr ⟨show 2#3 ≠ 7#3 by decide, .inr (by rw [hc]; decide)⟩
  | cmpp hc => exact .inr ⟨show 3#3 ≠ 7#3 by decide, .inr (by rw [hc]; decide)⟩
  | cmph hc hh => exact .inr ⟨show 4#3 ≠ 7#3 by decide, .inr (by rw [hc]; decide)⟩
  | scale hc => exact .inr ⟨show 5#3 ≠ 7#3 by decide, .inr (by rw [hc]; decide)⟩
  | alt hc => exact .inr ⟨show 6#3 ≠ 7#3 by decide, .inr (by rw [hc]; decide)⟩
  | _ => exact .inl rfl

/-- The stage at which a completed instruction leaves the cycle, if it sets one (R37). -/
def stageAfter : Instr → Option (BitVec 3)
  | .rdraw => some 1#3
  | .cmpt => some 2#3
  | .cmpp => some 3#3
  | .cmph => some 4#3
  | .scale => some 5#3
  | .alt => some 6#3
  | _ => none

theorem stageAfter_of_isFrame {i : Instr} (h : isFrame i = true) : stageAfter i = none := by
  cases i with
  | wireW | wireR | bwr | brd | wros | wrhum | wrctl => rfl
  | _ => exact absurd h Bool.false_ne_true

theorem MicroEffect.cyc_of_done {s r : State} {i : Instr} (h : MicroEffect s i (.done r)) {c : BitVec 3}
    (hc : stageAfter i = some c) : r.cyc = c := by
  cases h with
  | frame hi hb => rw [stageAfter_of_isFrame hi] at hc; cases hc
  | rdid | ldcala | ldcalb | polled => cases hc
  | rdraw | cmpt | cmpp | cmph | scale | alt => exact Option.some.inj hc

/-- A completed POLL has left its loop, and nothing else enters or leaves it. -/
theorem MicroEffect.polling_of_done {s r : State} {i : Instr} (h : MicroEffect s i (.done r)) :
    r.polling = false ∨ i ≠ .poll ∧ r.polling = s.polling := by
  cases h with
  | polled hb => exact .inl rfl
  | frame hi hb => exact .inr ⟨fun e => by rw [e] at hi; exact absurd hi (by decide), rfl⟩
  | _ => exact .inr ⟨nofun, rfl⟩

/-- Only a POLL polls again. -/
theorem MicroEffect.again {s r : State} {i : Instr} (h : MicroEffect s i (.again r)) :
    i = .poll ∧ r.polling = true ∧ (s.polling = true ∨ s.initDone = true) := by
  cases h with
  | pollsAgain hb hd => exact ⟨rfl, rfl, hd⟩

/-! ## The flags -/

/-- The part of the control state that does not speak of the running command. -/
structure FlagsOk (s : State) : Prop where
  initialized : s.initDone = true → s.calaValid = true ∧ s.calbValid = true ∧ s.idSeen = true
  staged : s.cyc ≠ 0#3 → s.initDone = true
  legalStage : s.cyc ≠ 7#3

theorem ControlOk.flags {s : State} (h : ControlOk s) : FlagsOk s := ⟨h.initialized, h.staged, h.legalStage⟩

theorem MicroEffect.flagsOk {s : State} {i : Instr} {o : MicroOut} (h : MicroEffect s i o) (hs : FlagsOk s) :
    FlagsOk o.state where
  initialized hd := by
    obtain ⟨ha, hb, hi⟩ := hs.initialized (h.initDone ▸ hd)
    obtain ⟨ha', -⟩ := h.calKept.blockA ha
    obtain ⟨hb', -⟩ := h.calKept.blockB hb
    exact ⟨ha', hb', h.idSeen hi⟩
  staged hc := by
    rw [h.initDone]
    rcases h.stage with e | ⟨-, hd | h0⟩
    · exact hs.staged (e ▸ hc)
    · exact hd
    · exact hs.staged h0
  legalStage := by
    rcases h.stage with e | ⟨h7, -⟩
    · exact e ▸ hs.legalStage
    · exact h7

/-- An idle block with the flags in order. -/
theorem FlagsOk.idle {s : State} (hf : FlagsOk s) (hb : s.busy = false) (hu : s.upc = 0#5) (hp : s.polling = false) :
    ControlOk s :=
  ⟨fun _ => ⟨hu, hp⟩, fun h => absurd (hb.symm.trans h) (by decide), hf.initialized, hf.staged, hf.legalStage⟩

/-- A busy block with the flags in order. -/
theorem FlagsOk.running {s : State} (hf : FlagsOk s) (hb : s.busy = true) (h : InInit s ∨ InMeas s ∨ InPoll s) :
    ControlOk s :=
  ⟨fun h0 => absurd (hb.symm.trans h0) (by decide), fun _ => h, hf.initialized, hf.staged, hf.legalStage⟩

/-- An abort leaves the block idle (R256). -/
theorem FlagsOk.raise {s : State} (hf : FlagsOk s) (e : ErrCause) (hu : upcProg s.upc = 0#2 → s.upc = 0#5) :
    ControlOk (raiseErr e s) := by
  refine FlagsOk.idle (s := raiseErr e s) ⟨hf.initialized, hf.staged, hf.legalStage⟩ rfl ?_ rfl
  rw [raiseErr_upc]
  split
  · exact hu ‹_›
  · rfl

/-! ## A host-issued command, and its poll loop -/

theorem endCommand_control {s t : State} {i : Instr} {o : MicroOut} (hf : FlagsOk s) (hu : s.upc = 0#5)
    (hp : s.polling = true → i = .poll ∧ s.initDone = true) (he : MicroEffect s i o) (ht : endCommand o = .next t) :
    ControlOk t := by
  have hf' := he.flagsOk hf
  have hu' := he.upc.trans hu
  rcases endCommand_cases ht with ⟨r, rfl, rfl⟩ | ⟨r, rfl, rfl⟩ | ⟨e, r, rfl, rfl⟩
  · have hr : r.polling = false := by
      rcases he.polling_of_done with h | ⟨hi, h⟩
      · exact h
      · exact h.trans (Bool.eq_false_iff.mpr fun hs => hi (hp hs).1)
    exact FlagsOk.idle (s := finish r) ⟨hf'.initialized, hf'.staged, hf'.legalStage⟩ rfl hu' hr
  · obtain ⟨-, hr, hd⟩ := he.again
    have hd' : r.initDone = true := he.initDone.trans (hd.elim (fun hs => (hp hs).2) id)
    exact FlagsOk.running (s := { r with busy := true }) ⟨hf'.initialized, hf'.staged, hf'.legalStage⟩ rfl
      (.inr (.inr ⟨hu', hr, hd'⟩))
  · exact FlagsOk.raise hf' e fun _ => hu'

/-! ## INIT -/

theorem inInit_at {s : State} {k : Nat} (hk : k ≤ 5) (hu : s.upc = upcAt progInit k) (hp : s.polling = false)
    (hd : s.initDone = false) (h1 : 1 ≤ k → s.idSeen = true) (h2 : 2 ≤ k → s.calaValid = true)
    (h3 : 3 ≤ k → s.calbValid = true) : InInit s := by
  have hx : (upcIdx s.upc).toNat = k := by rw [hu, upcIdx_upcAt _ (by omega)]
  exact ⟨by rw [hu, upcProg_upcAt], by rw [hx]; exact hk, hp, hd, by rwa [hx], by rwa [hx], by rwa [hx]⟩

/-- What INIT has done before its step `k`. -/
theorem InInit.before {s : State} (h : InInit s) {k : Nat} (hk : k < 8) (hu : s.upc = upcAt progInit k) :
    (1 ≤ k → s.idSeen = true) ∧ (2 ≤ k → s.calaValid = true) ∧ (3 ≤ k → s.calbValid = true) := by
  have hx : (upcIdx s.upc).toNat = k := by rw [hu, upcIdx_upcAt _ hk]
  obtain ⟨-, -, -, -, h1, h2, h3⟩ := h
  rw [hx] at h1 h2 h3
  exact ⟨h1, h2, h3⟩

theorem MicroEffect.idSeen_of_rdid {s r : State} (h : MicroEffect s .rdid (.done r)) : r.idSeen = true := by
  cases h with
  | rdid hb => rfl
  | frame hi hb => exact absurd hi (by decide)

theorem MicroEffect.calaValid_of_ldcala {s r : State} (h : MicroEffect s .ldcala (.done r)) : r.calaValid = true := by
  cases h with
  | ldcala hb hv => rfl
  | frame hi hb => exact absurd hi (by decide)

theorem MicroEffect.calbValid_of_ldcalb {s r : State} (h : MicroEffect s .ldcalb (.done r)) : r.calbValid = true := by
  cases h with
  | ldcalb hb hv => rfl
  | frame hi hb => exact absurd hi (by decide)

/-- What INIT has done after its step `k`. -/
theorem InInit.after {s r : State} (hs : InInit s) (k : Fin 5) (hu : s.upc = upcAt progInit k)
    (he : MicroEffect s (initInstr k.castSucc) (.done r)) :
    (1 ≤ k.val + 1 → r.idSeen = true) ∧ (2 ≤ k.val + 1 → r.calaValid = true) ∧ (3 ≤ k.val + 1 → r.calbValid = true) := by
  obtain ⟨h1, h2, h3⟩ := hs.before (by omega) hu
  have keepI : s.idSeen = true → r.idSeen = true := he.idSeen
  have keepA : s.calaValid = true → r.calaValid = true := fun h => (he.calKept.blockA h).1
  have keepB : s.calbValid = true → r.calbValid = true := fun h => (he.calKept.blockB h).1
  match k with
  | 0 => exact ⟨fun _ => he.idSeen_of_rdid, fun h => absurd h (by decide), fun h => absurd h (by decide)⟩
  | 1 => exact ⟨fun _ => keepI (h1 (by decide)), fun _ => he.calaValid_of_ldcala, fun h => absurd h (by decide)⟩
  | 2 => exact ⟨fun _ => keepI (h1 (by decide)), fun _ => keepA (h2 (by decide)), fun _ => he.calbValid_of_ldcalb⟩
  | 3 => exact ⟨fun _ => keepI (h1 (by decide)), fun _ => keepA (h2 (by decide)), fun _ => keepB (h3 (by decide))⟩
  | 4 => exact ⟨fun _ => keepI (h1 (by decide)), fun _ => keepA (h2 (by decide)), fun _ => keepB (h3 (by decide))⟩

theorem initStep_control {s t : State} {o : MicroOut} (hf : FlagsOk s) (hb : s.busy = true) (hs : InInit s) (k : Fin 5)
    (hu : s.upc = upcAt progInit k) (he : MicroEffect s (initInstr k.castSucc) o)
    (ht : toStep progInit (BitVec.ofNat 3 (k + 1)) o = .next t) : ControlOk t := by
  have hf' := he.flagsOk hf
  have hi : ∀ k : Fin 5, initInstr k.castSucc ≠ .poll := by decide
  rcases toStep_cases ht with ⟨r, rfl, rfl⟩ | rfl | ⟨e, r, rfl, rfl⟩
  · have hp : r.polling = false := he.polling_of_done.elim id fun h => h.2.trans hs.notPolling
    obtain ⟨h1, h2, h3⟩ := hs.after k hu he
    exact FlagsOk.running (s := { r with upc := _ }) ⟨hf'.initialized, hf'.staged, hf'.legalStage⟩ (he.busy.trans hb)
      (.inl (inInit_at (k := k + 1) (by omega) rfl hp (he.initDone.trans hs.notDone) h1 h2 h3))
  · exact absurd he.again.1 (hi k)
  · refine FlagsOk.raise hf' e fun h0 => absurd h0 ?_
    rw [he.upc, hu, upcProg_upcAt]
    decide

theorem initLast_control {s t : State} {o : MicroOut} (hf : FlagsOk s) (hs : InInit s) (hu : s.upc = upcAt progInit 5)
    (he : MicroEffect s .wrctl o) (ht : endInit o = .next t) : ControlOk t := by
  have hf' := he.flagsOk hf
  cases o with
  | done r =>
    cases ht
    obtain ⟨h1, h2, h3⟩ := hs.before (by decide) hu
    have hp : r.polling = false := he.polling_of_done.elim id fun h => h.2.trans hs.notPolling
    have hi : r.idSeen = true := he.idSeen (h1 (by decide))
    obtain ⟨ha, -⟩ := he.calKept.blockA (h2 (by decide))
    obtain ⟨hb, -⟩ := he.calKept.blockB (h3 (by decide))
    exact FlagsOk.idle (s := { r with initDone := true, upc := 0, busy := false })
      ⟨fun _ => ⟨ha, hb, hi⟩, fun _ => rfl, hf'.legalStage⟩ rfl rfl hp
  | again r => exact absurd he.again.1 (by decide)
  | raised e r =>
    cases ht
    refine FlagsOk.raise hf' e fun h0 => absurd h0 ?_
    rw [he.upc, hu]
    decide

/-! ## MEAS -/

theorem inMeas_at {s : State} {k : Nat} (hk : k < 8) (hu : s.upc = upcAt progMeas k) (hd : s.initDone = true)
    (hp : s.polling = true → k = 1) (hc : 3 ≤ k → s.cyc.toNat + 2 = k) : InMeas s := by
  have hx : (upcIdx s.upc).toNat = k := by rw [hu, upcIdx_upcAt _ hk]
  exact ⟨by rw [hu, upcProg_upcAt], hd, by rwa [hx], by rwa [hx]⟩

theorem InMeas.polling_at {s : State} (h : InMeas s) {k : Nat} (hk : k < 8) (hu : s.upc = upcAt progMeas k)
    (hp : s.polling = true) : k = 1 := by
  have hx := h.pollAt hp
  rwa [hu, upcIdx_upcAt _ hk] at hx

/-- CYC after M2 to M6 (R172). -/
theorem MicroEffect.pace {s r : State} (k : Fin 7) (he : MicroEffect s (measInstr k.castSucc) (.done r))
    (hk : 3 ≤ k.val + 1) : r.cyc.toNat + 2 = k.val + 1 := by
  have hi : ∀ k : Fin 7, 3 ≤ k.val + 1 → stageAfter (measInstr k.castSucc) = some (BitVec.ofNat 3 (k.val - 1)) := by
    decide
  rw [he.cyc_of_done (hi k hk), BitVec.toNat_ofNat]
  omega

/-- A completed step of MEAS leaves no poll loop. -/
theorem InMeas.polling_of_done {s r : State} (hs : InMeas s) (k : Fin 8) (hu : s.upc = upcAt progMeas k)
    (he : MicroEffect s (measInstr k) (.done r)) : r.polling = false := by
  rcases he.polling_of_done with h | ⟨hi, h⟩
  · exact h
  · refine h.trans (Bool.eq_false_iff.mpr fun hp => hi ?_)
    have h1 : k = 1 := Fin.ext (hs.polling_at k.isLt hu hp)
    rw [h1]
    rfl

theorem measStep_control {s t : State} {o : MicroOut} (hf : FlagsOk s) (hb : s.busy = true) (hs : InMeas s) (k : Fin 7)
    (hu : s.upc = upcAt progMeas k) (he : MicroEffect s (measInstr k.castSucc) o)
    (ht : toStep progMeas (BitVec.ofNat 3 (k + 1)) o = .next t) : ControlOk t := by
  have hf' := he.flagsOk hf
  have hd := he.initDone.trans hs.done
  rcases toStep_cases ht with ⟨r, rfl, rfl⟩ | rfl | ⟨e, r, rfl, rfl⟩
  · have hp := hs.polling_of_done k.castSucc hu he
    exact FlagsOk.running (s := { r with upc := _ }) ⟨hf'.initialized, hf'.staged, hf'.legalStage⟩ (he.busy.trans hb)
      (.inr (.inl (inMeas_at (k := k + 1) (by omega) rfl hd (fun h => absurd (hp.symm.trans h) (by decide)) (he.pace k))))
  · have hi : ∀ k : Fin 7, measInstr k.castSucc = .poll → k = 1 := by decide
    have hk := hi k he.again.1
    subst hk
    exact hf'.running (he.busy.trans hb) (.inr (.inl (inMeas_at (k := 1) (by decide) (he.upc.trans hu) hd (fun _ => rfl)
      (fun h => absurd h (by decide)))))
  · refine FlagsOk.raise hf' e fun h0 => absurd h0 ?_
    rw [he.upc, hu, upcProg_upcAt]
    decide

theorem measLast_control {s t : State} {o : MicroOut} (hf : FlagsOk s) (hs : InMeas s) (hu : s.upc = upcAt progMeas 7)
    (he : MicroEffect s .alt o) (ht : endMeas o = .next t) : ControlOk t := by
  have hf' := he.flagsOk hf
  cases o with
  | done r =>
    cases ht
    have hp : r.polling = false := hs.polling_of_done 7 hu he
    exact FlagsOk.idle (s := { r with upc := 0, busy := false }) ⟨hf'.initialized, hf'.staged, hf'.legalStage⟩ rfl rfl hp
  | again r => exact absurd he.again.1 (by decide)
  | raised e r =>
    cases ht
    refine FlagsOk.raise hf' e fun h0 => absurd h0 ?_
    rw [he.upc, hu]
    decide

/-! ## Every step -/

/-- The control state does not depend on what the host will do. -/
theorem ControlOk.withHost {s : State} (h : ControlOk s) (q : List HostInput) : ControlOk { s with host := q } where
  idle := h.idle
  running hb := (h.running hb).imp (fun ⟨a, b, c, d, e, f, g⟩ => ⟨a, b, c, d, e, f, g⟩)
    (Or.imp (fun ⟨a, b, c, d⟩ => ⟨a, b, c, d⟩) fun ⟨a, b, c⟩ => ⟨a, b, c⟩)
  initialized := h.initialized
  staged := h.staged
  legalStage := h.legalStage

section
variable {s : State} (hs : ControlOk s) (hb : s.busy = true)
include hs hb

theorem ControlOk.inInit (hu : upcProg s.upc = progInit) : InInit s := by
  rcases hs.running hb with h | h | h
  · exact h
  · exact absurd (hu.symm.trans h.prog) (by decide)
  · rw [h.upc] at hu; exact absurd hu (by decide)

theorem ControlOk.inMeas (hu : upcProg s.upc = progMeas) : InMeas s := by
  rcases hs.running hb with h | h | h
  · exact absurd (hu.symm.trans h.prog) (by decide)
  · exact h
  · rw [h.upc] at hu; exact absurd hu (by decide)

theorem ControlOk.inPoll (hu : upcProg s.upc = 0#2) : InPoll s := by
  rcases hs.running hb with h | h | h
  · exact absurd (hu.symm.trans h.prog) (by decide)
  · exact absurd (hu.symm.trans h.prog) (by decide)
  · exact h

theorem RunCase.control {t : State} (h : RunCase s t) : ControlOk t := by
  cases h with
  | initStep k hu he ht =>
    exact initStep_control hs.flags hb (hs.inInit hb (by rw [hu, upcProg_upcAt])) k hu he ht
  | initLast hu he ht => exact initLast_control hs.flags (hs.inInit hb (by rw [hu, upcProg_upcAt])) hu he ht
  | measSkip hu ht =>
    subst ht
    have hm := hs.inMeas hb (by rw [hu, upcProg_upcAt])
    exact FlagsOk.running (s := { s with upc := _ }) ⟨hs.initialized, hs.staged, hs.legalStage⟩ hb
      (.inr (.inl (inMeas_at (k := 2) (by decide) rfl hm.done
        (fun hp => absurd (hm.polling_at (by decide) hu hp) (by decide)) (fun h => absurd h (by decide)))))
  | measStep k hu he ht =>
    exact measStep_control hs.flags hb (hs.inMeas hb (by rw [hu, upcProg_upcAt])) k hu he ht
  | measLast hu he ht => exact measLast_control hs.flags (hs.inMeas hb (by rw [hu, upcProg_upcAt])) hu he ht
  | pollLoop hu hp he ht =>
    have hl := hs.inPoll hb hu
    exact endCommand_control hs.flags hl.upc (fun _ => ⟨rfl, hl.done⟩) he ht

end

/-- Settles O48: RST gives the reset values, a request starts from an idle block, and a running command goes on by one of
its steps. -/
theorem everyStepKeepsTheControl : Obligations.EveryStepKeepsTheControl := by
  intro s t hs h
  cases step_case h with
  | rst hh ht =>
    subst ht
    exact FlagsOk.idle (s := applyRst _ s) ⟨nofun, fun hc => absurd rfl hc, show 0#3 ≠ 7#3 by decide⟩ rfl rfl rfl
  | idle hb ht => exact ht ▸ hs.withHost _
  | @refused q e hb he ht =>
    subst ht
    exact FlagsOk.raise (s := { s with busy := true, host := q }) ⟨hs.initialized, hs.staged, hs.legalStage⟩ e
      fun _ => (hs.idle hb).1
  | init hb hd hh hr ht =>
    subst ht
    exact FlagsOk.running (s := { s with busy := true, host := _, mode := _, upc := _ })
      ⟨hs.initialized, hs.staged, hs.legalStage⟩ rfl
      (.inl (inInit_at (k := 0) (by decide) rfl (hs.idle hb).2 hd (fun h => absurd h (by decide))
        (fun h => absurd h (by decide)) (fun h => absurd h (by decide))))
  | meas hb hd ht =>
    subst ht
    exact FlagsOk.running (s := { s with busy := true, host := _, upc := _ })
      ⟨hs.initialized, hs.staged, hs.legalStage⟩ rfl
      (.inr (.inl (inMeas_at (k := 0) (by decide) rfl hd
        (fun hp => absurd ((hs.idle hb).2.symm.trans hp) (by decide)) (fun h => absurd h (by decide)))))
  | @command r q i o hb hh hr he ht =>
    obtain ⟨hu, hp⟩ := hs.idle hb
    exact endCommand_control (s := { s with busy := true, host := q }) ⟨hs.initialized, hs.staged, hs.legalStage⟩ hu
      (fun h => absurd (hp.symm.trans h) (by decide)) he ht
  | @runs q hb hr => exact RunCase.control (hs.withHost q) hb hr

end Sys2Proof.Machine
end

section
/-! Which step writes MODE and TFINE, and the held command (spec 10_state.md R24, R34, R41, R181). -/

namespace Sys2Proof.Machine

theorem Ends.mode {o : MicroOut} {t : State} (h : Ends o t) : t.mode = o.state.mode := by cases h <;> rfl

theorem Ends.host {o : MicroOut} {t : State} (h : Ends o t) : t.host = o.state.host := by cases h <;> rfl

theorem Ends.tfine {o : MicroOut} {t : State} (h : Ends o t) : t.tfine = o.state.tfine := by cases h <;> rfl

theorem Ends.cyc {o : MicroOut} {t : State} (h : Ends o t) : t.cyc = o.state.cyc := by cases h <;> rfl

/-! ## MODE -/

theorem MicroEffect.mode {s : State} {i : Instr} {o : MicroOut} (h : MicroEffect s i o) : o.state.mode = s.mode := by
  cases h <;> rfl

theorem RunCase.mode {s t : State} (h : RunCase s t) : t.mode = s.mode := by
  rcases h.ends with ⟨u, rfl⟩ | ⟨i, o, he, ht, -⟩
  · rfl
  · exact ht.mode.trans he.mode

/-- Settles O56: of the rules of a step, only the acceptance of an INIT and RST write MODE. -/
theorem modeIsWrittenByInitOnly : Obligations.ModeIsWrittenByInitOnly := by
  intro s t hn h hm
  cases step_case h with
  | rst hh ht => exact absurd hh (hn _)
  | idle hb ht => exact absurd (by rw [ht]) hm
  | refused hb he ht => exact absurd (by rw [ht, raiseErr_mode]) hm
  | init hb hd hh hr ht => exact ⟨hb, hd, _, _, _, hh, hr, by rw [ht]⟩
  | meas hb hd ht => exact absurd (by rw [ht]) hm
  | command hb hh hr he ht => exact absurd ((ends_of_endCommand ht).mode.trans he.mode) hm
  | runs hb hr => exact absurd hr.mode hm

/-! ## TFINE -/

theorem MicroEffect.tfine {s : State} {i : Instr} {o : MicroOut} (h : MicroEffect s i o) (hx : o.state.tfine ≠ s.tfine) :
    i = .cmpt ∧ s.cyc = 1#3 ∧ o.state.cyc = 2#3 := by
  cases h with
  | cmpt hc hy => exact ⟨rfl, hc, rfl⟩
  | _ => exact absurd rfl hx

/-- A running command writes TFINE at M3 only. -/
theorem RunCase.tfine {s t : State} (h : RunCase s t) (hx : t.tfine ≠ s.tfine) :
    s.cyc = 1#3 ∧ t.cyc = 2#3 ∧ s.upc = 0b10011#5 := by
  rcases h.ends with ⟨u, rfl⟩ | ⟨i, o, he, ht, hu⟩
  · exact absurd rfl hx
  · obtain ⟨hi, hc, hc'⟩ := he.tfine (ht.tfine ▸ hx)
    exact ⟨hc, ht.cyc.trans hc', hu hi⟩

/-- Settles O57: of the rules of a step, only an accepted CMPT, M3 and RST write TFINE. -/
theorem tfineIsWrittenByCmptOnly : Obligations.TfineIsWrittenByCmptOnly := by
  intro s t hn h hx
  cases step_case h with
  | rst hh ht => exact absurd hh (hn _)
  | idle hb ht => exact absurd (by rw [ht]) hx
  | refused hb he ht => exact absurd (by rw [ht, raiseErr_tfine]) hx
  | init hb hd hh hr ht => exact absurd (by rw [ht]) hx
  | meas hb hd ht => exact absurd (by rw [ht]) hx
  | command hb hh hr he ht =>
    have ht := ends_of_endCommand ht
    obtain ⟨rfl, hc, hc'⟩ := he.tfine (ht.tfine ▸ hx)
    exact ⟨hc, ht.cyc.trans hc', .inl ⟨hb, _, _, hh, hr⟩⟩
  | runs hb hr =>
    obtain ⟨hc, hc', hu⟩ := hr.tfine hx
    exact ⟨hc, hc', .inr ⟨hb, hu⟩⟩

/-! ## Acceptance and holding -/

/-- Settles O5: the step accepts the request, and acceptance is decoding and execution. -/
theorem stepRunsTheDecodedInstruction : Obligations.StepRunsTheDecodedInstruction := by
  intro s r h i hb hh hr
  simp only [step, hh, hb, accept, hr, Bool.false_eq_true, if_false]

theorem MicroEffect.host {s : State} {i : Instr} {o : MicroOut} (h : MicroEffect s i o) : o.state.host = s.host := by
  cases h <;> rfl

theorem RunCase.host {s t : State} (h : RunCase s t) : t.host = s.host := by
  rcases h.ends with ⟨u, rfl⟩ | ⟨i, o, he, ht, -⟩
  · rfl
  · exact ht.host.trans he.host

/-- Settles O6: with a request at the head of the host's list a busy block goes on, and no rule of a running command writes
that list. -/
theorem busyHoldsTheCommand : Obligations.BusyHoldsTheCommand := by
  intro s t r h hb hh
  have hrun : step s = runBusy s := step_of_busy hb fun n q => by simp [hh]
  exact ⟨hrun, fun ht => (runBusy_case (hrun ▸ ht)).host⟩

end Sys2Proof.Machine
end

section
/-! Reset and the host's read port (spec 10_state.md R20 to R42, R50, 30_encoding.md R101, 70_reset_and_hazards.md R280,
R281). -/

namespace Sys2Proof.Machine

/-! ## The read port -/

/-- A busy block answers nothing (R41). -/
theorem hostRead_of_busy (r : HostReg) {s : State} (hb : s.busy = true) : hostRead r s = none := by
  simp [hostRead, hb]

/-- An idle block answers with the register's content while its guard is up (R50). -/
theorem hostRead_of_idle (r : HostReg) {s : State} (hb : s.busy = false) :
    hostRead r s = if hostGuard r s = true then some (hostContent r s) else none := by
  simp [hostRead, hb]

theorem hostRead_eq_some {r : HostReg} {s : State} {v : HostVal} :
    hostRead r s = some v ↔ s.busy = false ∧ hostGuard r s = true ∧ v = hostContent r s := by
  unfold hostRead
  split
  · rename_i h
    simp [h.1, h.2, eq_comm]
  · rename_i h
    simpa using fun hb hg => absurd ⟨hb, hg⟩ h

theorem cycAtLeast_iff {k : Nat} {s : State} : cycAtLeast k s = true ↔ k ≤ s.cyc.toNat := decide_eq_true_iff

/-- M_T, M_P and M_H hold a value from stage 5 on, and once a record is complete. -/
theorem recordGuard_iff {s : State} :
    (cycAtLeast 5 s || s.measValid) = true ↔ 5 ≤ s.cyc.toNat ∨ s.measValid = true := by
  rw [Bool.or_eq_true, cycAtLeast_iff]

section
variable {s : State} (hb : s.busy = false)
include hb

/-- A register without a guard. -/
theorem hostRead_free {r : HostReg} {v : HostVal} (hg : hostGuard r s = true) (hv : hostContent r s = v) :
    hostRead r s = some v := by
  rw [hostRead_of_idle r hb, if_pos hg, hv]

/-- A register under a guard. -/
theorem hostRead_guarded {r : HostReg} {v : HostVal} {p : Prop} [Decidable p] (hg : hostGuard r s = true ↔ p)
    (hv : hostContent r s = v) : hostRead r s = if p then some v else none := by
  rw [hostRead_of_idle r hb, hv]
  exact if_congr hg rfl rfl

end

/-- Settles O9: register by register, its guard and its content by its type. -/
theorem hostReadsUnderGuard : Obligations.HostReadsUnderGuard := by
  refine ⟨fun r s hb => hostRead_of_busy r hb, fun s v => ?_, fun s k v => ?_, fun s hb => ?_⟩
  · rw [hostRead_eq_some]
    exact and_congr_right' (and_congr_left' cycAtLeast_iff)
  · rw [hostRead_eq_some, hostGuard, decide_eq_true_iff, and_assoc]
    rfl
  · have free {r : HostReg} {v : HostVal} := hostRead_free hb (r := r) (v := v)
    have flag {r : HostReg} {v : HostVal} {f : Bool} := hostRead_guarded hb (r := r) (v := v) (p := f = true)
    have stage {r : HostReg} {v : HostVal} {k : Nat} := hostRead_guarded hb (r := r) (v := v) (p := k ≤ s.cyc.toNat)
    have record {r : HostReg} {v : HostVal} :=
      hostRead_guarded hb (r := r) (v := v) (p := 5 ≤ s.cyc.toNat ∨ s.measValid = true)
    have busy : hostContent .busy s = .num 0 := by rw [hostContent, hb]; rfl
    exact ⟨⟨free rfl rfl, free rfl rfl, free rfl rfl, free rfl rfl, free rfl rfl, free rfl rfl, free rfl rfl,
        free rfl rfl, free rfl rfl, free rfl busy, free rfl rfl, free rfl rfl, free rfl rfl,
        hostRead_guarded hb Option.isSome_iff_ne_none rfl, flag .rfl rfl⟩,
      ⟨flag .rfl rfl, flag .rfl rfl, flag .rfl rfl, flag .rfl rfl, flag .rfl rfl, flag .rfl rfl, flag .rfl rfl,
        flag .rfl rfl, flag .rfl rfl, flag .rfl rfl, flag .rfl rfl, flag .rfl rfl⟩,
      ⟨flag .rfl rfl, flag .rfl rfl, flag .rfl rfl, flag .rfl rfl, flag .rfl rfl, flag .rfl rfl⟩,
      ⟨stage cycAtLeast_iff rfl, stage cycAtLeast_iff rfl, stage cycAtLeast_iff rfl, stage cycAtLeast_iff rfl,
        stage cycAtLeast_iff rfl, stage cycAtLeast_iff rfl⟩,
      record recordGuard_iff rfl, record recordGuard_iff rfl, record recordGuard_iff rfl, flag .rfl rfl⟩

/-! ## Reset -/

/-- After RST no guard is up (R50). -/
theorem hostGuard_applyRst (h : List HostInput) (s : State) : ∀ r ∈ noValueRegs, hostGuard r (applyRst h s) = false := by
  have h1 : h1Valid (applyRst h s) = false := by
    unfold h1Valid
    split <;> rfl
  intro r hr
  cases r with
  | calH1 => exact h1
  | calaValid | calbValid | measValid | idSeen | mode | osrsT | osrsP | osrsH | initDone | cyc | err | upc | busy
  | pollCnt => exact absurd hr (by decide)
  | rxbuf k => exact absurd hr (by simp [noValueRegs])
  | _ => rfl

/-- Settles O7: the step is RST, whose state has the reset values and no guard up. -/
theorem rstRestoresTheBlock : Obligations.RstRestoresTheBlock := by
  intro s h hh
  refine ⟨applyRst h s, by rw [step, hh], ⟨rfl, rfl, rfl, rfl, rfl, rfl, rfl, rfl, rfl, rfl, rfl, rfl, rfl, rfl, rfl, rfl,
    rfl, rxbufNoValue_length _⟩, fun r hr => ?_, fun k => ?_⟩
  · rw [hostRead_of_idle r rfl, hostGuard_applyRst h s r hr]
    rfl
  · rw [hostRead_of_idle (.rxbuf k) rfl, if_neg]
    simp [hostGuard, applyRst, State.reset]

/-- Settles O8: the reset state and the tables of its codes, evaluated. -/
theorem resetValues : Obligations.ResetValues := by
  refine ⟨rfl, rfl, rfl, rfl, rfl, rfl, rfl, rfl, rfl, rfl, rfl, rfl, rfl, rfl, rfl, rfl, rfl, ?_⟩
  decide

theorem controlOk_reset : ControlOk State.reset :=
  FlagsOk.idle ⟨nofun, fun hc => absurd rfl hc, show 0#3 ≠ 7#3 by decide⟩ rfl rfl rfl

/-- At reset no guard is up, and the device has no cell. -/
theorem dataOk_reset : DataOk State.reset where
  buffer := rxbufNoValue_length _
  written := Nat.zero_le _
  packed hv := absurd hv Bool.false_ne_true
  finalStep hk := absurd hk (show ¬2 ≤ (0#3).toNat by decide)
  humidity hk := absurd hk (show ¬4 ≤ (0#3).toNat by decide)
  record hk := hk.elim (fun h5 => absurd h5 (show ¬5 ≤ (0#3).toNat by decide)) fun hv => absurd hv Bool.false_ne_true
  memory := rfl
  settled := rfl

/-- Settles O50: the bus has no frame in HIST, the block is idle, and no guard is up. -/
theorem resetMeetsTheInvariants : Obligations.ResetMeetsTheInvariants :=
  ⟨⟨rfl, rfl, rfl⟩, controlOk_reset, dataOk_reset⟩

end Sys2Proof.Machine
end

section
/-! The reference device: conversions and oversampling (spec 10_state.md R46 to R48, 20_memory.md R62, R68 to R70, R74). -/

namespace Sys2Proof.Machine

/-! ## The raw-data region takes a sample (R62, R68) -/

theorem devNextPtr_toNat {p : BitVec 7} (h : p.toNat + 1 < 128) : (devNextPtr p).toNat = p.toNat + 1 := by
  have hp : p ≠ 0x7F#7 := by rintro rfl; exact absurd h (by decide)
  rw [devNextPtr, if_neg hp, BitVec.toNat_add]
  exact Nat.mod_eq_of_lt h

/-- Every location of a region that does not pass 0x7F lies at or behind its start. -/
theorem le_of_mem_devRegion {n : Nat} {p q : BitVec 7} (h : p.toNat + n ≤ 128) (hq : q ∈ devRegion n p) :
    p.toNat ≤ q.toNat := by
  induction n generalizing p with
  | zero => cases hq
  | succ n ih =>
    rcases List.mem_cons.mp hq with rfl | hq
    · exact le_rfl
    · cases n with
      | zero => cases hq
      | succ n =>
        have hp := devNextPtr_toNat (p := p) (by omega)
        have hn := ih (p := devNextPtr p) (by omega) hq
        omega

theorem notMem_devRegion_next {n : Nat} {p : BitVec 7} (h : p.toNat + (n + 1) ≤ 128) : p ∉ devRegion n (devNextPtr p) := by
  cases n with
  | zero => exact List.not_mem_nil
  | succ n =>
    intro hp
    have hn := devNextPtr_toNat (p := p) (by omega)
    have hle := le_of_mem_devRegion (by omega) hp
    omega

/-- Bytes stored in a region stand there in order. -/
theorem memRead_memStore_devRegion {n : Nat} {p : BitVec 7} {bs : List Byte} {m : Memory} (hm : memWf m = true)
    (hp : p.toNat + n ≤ 128) (hl : bs.length = n) {i : Nat} (hi : i < n) :
    memRead (memStore ((devRegion n p).zip bs) m) (p.toNat + i) = byteAt bs i := by
  induction n generalizing p bs m i with
  | zero => omega
  | succ n ih =>
    cases bs with
    | nil => cases hl
    | cons b bs =>
      have hw := memWf_memWrite b hm p.isLt
      show memRead (memStore ((devRegion n (devNextPtr p)).zip bs) (memWrite m p.toNat b)) _ = _
      cases i with
      | zero =>
        have hx : ∀ c ∈ (devRegion n (devNextPtr p)).zip bs, c.1 ≠ p := fun c hc e =>
          notMem_devRegion_next hp (e ▸ (List.of_mem_zip hc).1)
        rw [Nat.add_zero, memRead_memStore_of_notMem hw hx, memRead_memWrite b hm, if_pos rfl]
        rfl
      | succ i =>
        have hn := devNextPtr_toNat (p := p) (by omega)
        have h := ih (p := devNextPtr p) hw (by omega) (Nat.succ.inj hl) (i := i) (by omega)
        rw [hn, Nat.add_right_comm] at h
        exact h

/-- A listed sample of eight bytes is the sample. -/
theorem devSample_of_listed {d : Device} {x : List Byte} {rest : List (List Byte)} (hs : d.samples = x :: rest)
    (hl : x.length = 8) : devSample d = x := by
  apply List.ext_getElem
  · simp [devSample, lenData, hl]
  · intro i h1 h2
    simp [devSample, devSampleByte, hs, h2]

/-! ## The end of a conversion (R68, R74) -/

/-- The conversion is over: the device is in Sleep, bit 3 is clear, and the sample `x` stands in the raw-data region. -/
def Converted (cfg : Params) (x : List Byte) (rest : List (List Byte)) (d : Device) : Prop :=
  d.opMode = .sleep ∧ d.conv = 0 ∧ d.samples = rest ∧
    statusBusy (memRead d.reg (wireAddr cfg.addrStatus).toNat) = false ∧
    ∀ i, i < 8 → memRead d.reg ((wireAddr cfg.addrData).toNat + i) = byteAt x i

/-- A device that does not run freely stores the sample that is due. -/
theorem devEndFrame_of_due {cfg : Params} {d : Device} (hd : d.sampleDue = true) (hm : d.opMode ≠ .normal) :
    devEndFrame cfg d = devNewSample cfg d := by
  have h1 : devDeliver cfg d = devNewSample cfg d := by rw [devDeliver, if_pos hd]
  rw [devEndFrame, h1]
  exact devFreeRun_of_quiet (.inl hm)

section
variable {cfg : Params} {x : List Byte} {rest : List (List Byte)} (hl : x.length = 8)
  (ha : (wireAddr cfg.addrData).toNat + 8 ≤ 128) (hst : wireAddr cfg.addrStatus ∉ devDataRegion cfg)
include hl ha hst

theorem converted_devNewSample {d : Device} (hw : memWf d.reg = true) (hm : d.opMode = .sleep) (hc : d.conv = 0)
    (hs : d.samples = x :: rest) (hb : statusBusy (memRead d.reg (wireAddr cfg.addrStatus).toNat) = false) :
    Converted cfg x rest (devNewSample cfg d) := by
  refine ⟨hm, hc, by rw [devNewSample_samples, hs, List.tail_cons], by rwa [memRead_devNewSample hw hst],
    fun i hi => ?_⟩
  show memRead (memStore ((devRegion 8 _).zip (devSample d)) d.reg) _ = _
  rw [devSample_of_listed hs hl]
  exact memRead_memStore_devRegion hw ha hl hi

/-- A frame in which a Forced conversion ends, wherever the pointer then is. -/
theorem converted_devComplete {d : Device} (hw : memWf d.reg = true) (hm : d.opMode = .forced)
    (hs : d.samples = x :: rest) (p : BitVec 7) :
    Converted cfg x rest (devEndFrame cfg { devComplete cfg d with ptr := p }) := by
  have ho : (devComplete cfg d).opMode = .sleep := by rw [devComplete_opMode, if_pos hm]
  have hb : statusBusy (memRead (devComplete cfg d).reg (wireAddr cfg.addrStatus).toNat) = false :=
    statusBusy_devStatusBit (d := { d with conv := 0, sampleDue := true, opMode := _ }) hw
  rw [devEndFrame_of_due (d := { devComplete cfg d with ptr := p }) rfl (ho.trans_ne (by decide))]
  exact converted_devNewSample hl ha hst (d := { devComplete cfg d with ptr := p }) (devComplete_wf hw) ho rfl hs hb

end

/-- While a triggered conversion counts, the end of a frame leaves the status register. -/
theorem status_devEndFrame_of_counting {cfg : Params} {d : Device} (hw : memWf d.reg = true) (hd : d.sampleDue = false)
    (hc : d.conv ≠ 0) (hst : wireAddr cfg.addrStatus ∉ devDataRegion cfg) :
    memRead (devEndFrame cfg d).reg (wireAddr cfg.addrStatus).toNat =
      memRead d.reg (wireAddr cfg.addrStatus).toNat := by
  have h1 : devDeliver cfg d = d := by simp [devDeliver, hd]
  rw [devEndFrame, h1, devFreeRun]
  split
  · rw [devFreeStatus, if_neg (by exact hc)]
    exact memRead_devFreeSample hw hst
  · rfl

/-! ## Writes of the combined control register -/

/-- The device at the data byte of a write frame, or at the first data byte of a read frame. -/
def Device.addressedAt (d : Device) (a : Byte) (reads : Bool) : Device :=
  { d with ptr := wireAddr a, rw := reads, addressed := true }

theorem busWrite_of_reference (a v : Byte) {s : State} (h : s.dev.kind = .reference) :
    (busWrite a v s).dev = devEndFrame s.cfg (devStore s.cfg v (s.dev.addressedAt a false)) := by
  rw [busWrite_eq_sendFrame, sendFrame_of_reference h (writeByte_bit7 a), wireAddr_writeByte]
  rfl

theorem busWrite_kind (a v : Byte) {s : State} (h : s.dev.kind = .reference) :
    (busWrite a v s).dev.kind = .reference := by
  rw [busWrite_of_reference a v h, devEndFrame_kind, devStore_kind]
  exact h

theorem busWrite_cfg (a v : Byte) (s : State) : (busWrite a v s).cfg = s.cfg := by
  rw [busWrite_eq_sendFrame, sendFrame_cfg]

theorem exec_bwr_of_reference (a v : Byte) {s : State} (h : s.dev.kind = .reference) :
    ∃ t, exec (.bwr a v) s = .next t ∧ t.dev = devEndFrame s.cfg (devStore s.cfg v (s.dev.addressedAt a false)) :=
  ⟨_, rfl, busWrite_of_reference a v h⟩

theorem devStore_ctrlMeas {cfg : Params} {v : Byte} {d : Device} (hp : d.ptr = wireAddr cfg.addrCtrlMeas) :
    devStore cfg v d = devControl cfg v { d with reg := memWrite d.reg d.ptr.toNat v } := if_pos hp

theorem devControl_of_forced {cfg : Params} {v : Byte} {d : Device} (hm : devModeOf cfg (ctrlMode v) = .forced) :
    devControl cfg v d = devTrigger cfg (devConfigure cfg v d) := by
  have h : (devConfigure cfg v d).opMode = .forced := hm
  rw [devControl, h]

theorem devControl_of_normal {cfg : Params} {v : Byte} {d : Device} (hm : devModeOf cfg (ctrlMode v) = .normal) :
    devControl cfg v d = devStatusBit cfg true (devConfigure cfg v d) := by
  have h : (devConfigure cfg v d).opMode = .normal := hm
  rw [devControl, h]

theorem devModeOf_forced (cfg : Params) : devModeOf cfg cfg.modeForced = .forced := if_pos rfl

theorem devModeOf_normal {cfg : Params} (h : cfg.modeNormal ≠ cfg.modeForced) :
    devModeOf cfg cfg.modeNormal = .normal := by
  rw [devModeOf, if_neg h, if_pos rfl]

/-- A Forced write with N >= 1 starts a conversion: CONV is N and bit 3 is set. -/
theorem forcedWrite_triggers {cfg : Params} {v : Byte} {d : Device} (hw : memWf d.reg = true) (hd : d.sampleDue = false)
    (hp : d.ptr = wireAddr cfg.addrCtrlMeas) (hv : ctrlMode v = cfg.modeForced) (hn : d.convLen ≠ 0) :
    let e := devEndFrame cfg (devStore cfg v d)
    e.opMode = .forced ∧ e.conv = d.convLen ∧ e.samples = d.samples ∧
      statusBusy (memRead e.reg (wireAddr cfg.addrStatus).toNat) = true := by
  intro e
  have hm : devModeOf cfg (ctrlMode v) = .forced := by rw [hv, devModeOf_forced]
  have hs : devStore cfg v d =
      devStatusBit cfg true
        { devConfigure cfg v { d with reg := memWrite d.reg d.ptr.toNat v } with conv := d.convLen } := by
    rw [devStore_ctrlMeas hp, devControl_of_forced hm]
    exact if_neg hn
  have he : e = devStore cfg v d :=
    devEndFrame_of_quiet (by rw [hs]; exact hd) (.inl (by rw [hs]; exact hm.trans_ne (by decide)))
  rw [he, hs]
  exact ⟨hm, rfl, rfl, statusBusy_devStatusBit (memWf_memWrite v hw d.ptr.isLt)⟩

/-- A Forced write with N = 0 starts a conversion that is over when its frame ends. -/
theorem forcedWrite_converts {cfg : Params} {x : List Byte} {rest : List (List Byte)} (hl : x.length = 8)
    (ha : (wireAddr cfg.addrData).toNat + 8 ≤ 128) (hst : wireAddr cfg.addrStatus ∉ devDataRegion cfg) {v : Byte}
    {d : Device} (hw : memWf d.reg = true) (hp : d.ptr = wireAddr cfg.addrCtrlMeas) (hv : ctrlMode v = cfg.modeForced)
    (hn : d.convLen = 0) (hs : d.samples = x :: rest) :
    Converted cfg x rest (devEndFrame cfg (devStore cfg v d)) := by
  have hm : devModeOf cfg (ctrlMode v) = .forced := by rw [hv, devModeOf_forced]
  have hw' := memWf_memWrite v hw d.ptr.isLt
  generalize hc : devConfigure cfg v { d with reg := memWrite d.reg d.ptr.toNat v } = c
  have hstore : devStore cfg v d = devComplete cfg c := by
    rw [devStore_ctrlMeas hp, devControl_of_forced hm, hc, devTrigger, if_pos (by rw [← hc]; exact hn)]
  rw [hstore]
  exact converted_devComplete hl ha hst (by rw [← hc]; exact hw') (by rw [← hc]; exact hm) (by rw [← hc]; exact hs) c.ptr

/-- A Normal write puts the device in Normal mode. -/
theorem normalWrite_opMode {cfg : Params} {v : Byte} {d : Device} (hp : d.ptr = wireAddr cfg.addrCtrlMeas)
    (hv : ctrlMode v = cfg.modeNormal) (hne : cfg.modeNormal ≠ cfg.modeForced) : (devStore cfg v d).opMode = .normal := by
  have hm : devModeOf cfg (ctrlMode v) = .normal := by rw [hv, devModeOf_normal hne]
  rw [devStore_ctrlMeas hp, devControl_of_normal hm]
  exact hm

/-! ## Polls -/

/-- The device answers the status byte of a poll. -/
def Device.polled (cfg : Params) (d : Device) : Device := devAfterRx cfg (d.addressedAt cfg.addrStatus true)

/-- The end of a command is nothing to the device. -/
theorem endCommand_dev (o : MicroOut) : ∃ t, endCommand o = .next t ∧ t.dev = o.state.dev := by
  cases o with
  | done r => exact ⟨finish r, rfl, rfl⟩
  | again r => exact ⟨{ r with busy := true }, rfl, rfl⟩
  | raised e r => exact ⟨raiseErr e r, rfl, rfl⟩

theorem pollOutcome_dev (b : Byte) (v : Device) (k : Nat) (s : State) : (pollOutcome b v k s).state.dev = v := by
  simp only [pollOutcome, apply_ite MicroOut.state, apply_ite State.dev, MicroOut.state_done, MicroOut.state_again,
    MicroOut.state_raised, ite_self]

theorem exec_poll_of_reference {s : State} (h : s.dev.kind = .reference) (hi : s.initDone = true) :
    ∃ t, exec .poll s = .next t ∧ t.dev = devEndFrame s.cfg (s.dev.polled s.cfg) := by
  have hr := busRead_of_reference s.cfg.addrStatus one_ne_zero (s := { s with pollCnt := 0 }) h
  have hm := (microPoll_of_done hi).trans (microPollOnce_of_read hr)
  obtain ⟨t, ht, hd⟩ := endCommand_dev (microPoll s)
  exact ⟨t, ht, by rw [hd, hm, pollOutcome_dev]; rfl⟩

theorem devCountOne_of_many (cfg : Params) {d : Device} (h : 2 ≤ d.conv) :
    devCountOne cfg d = { d with conv := d.conv - 1 } := if_neg (by omega)

theorem devCountOne_of_last (cfg : Params) {d : Device} (h : d.conv = 1) : devCountOne cfg d = devComplete cfg d :=
  if_pos h

/-- A poll counts a running conversion down. -/
theorem polled_of_counting {cfg : Params} {d : Device} (hk : d.stuck = false) (hc : d.conv ≠ 0) :
    d.polled cfg = { devCountOne cfg (d.addressedAt cfg.addrStatus true) with
      ptr := devNextPtr (wireAddr cfg.addrStatus) } := by
  have h : devCountDown cfg (d.addressedAt cfg.addrStatus true) = devCountOne cfg (d.addressedAt cfg.addrStatus true) :=
    if_pos ⟨rfl, hc, hk⟩
  rw [Device.polled, devAfterRx, h]
  rfl

/-- A poll leaves Normal mode as it is. -/
theorem polled_opMode_of_normal {cfg : Params} {d : Device} (hm : d.opMode = .normal) :
    (d.polled cfg).opMode = .normal := by
  show (devCountDown cfg _).opMode = _
  unfold devCountDown
  split
  · unfold devCountOne
    split
    · rw [devComplete_opMode, if_neg (by rw [Device.addressedAt, hm]; decide)]
      exact hm
    · exact hm
  · exact hm

/-- A poll with CONV >= 2 counts it down by one, and leaves the mode and the status register. -/
theorem poll_counts {cfg : Params} {d : Device} (hw : memWf d.reg = true) (hd : d.sampleDue = false)
    (hst : wireAddr cfg.addrStatus ∉ devDataRegion cfg) (hk : d.stuck = false) (hc : 2 ≤ d.conv) :
    let e := devEndFrame cfg (d.polled cfg)
    e.conv = d.conv - 1 ∧ e.opMode = d.opMode ∧
      memRead e.reg (wireAddr cfg.addrStatus).toNat = memRead d.reg (wireAddr cfg.addrStatus).toNat := by
  intro e
  have hp : d.polled cfg = { d with
      ptr := devNextPtr (wireAddr cfg.addrStatus), rw := true, addressed := true, conv := d.conv - 1 } := by
    rw [polled_of_counting hk (by omega), devCountOne_of_many cfg (d := d.addressedAt cfg.addrStatus true) hc]
    rfl
  have hn : (d.polled cfg).conv ≠ 0 := by rw [hp]; show d.conv - 1 ≠ 0; omega
  refine ⟨by rw [devEndFrame_conv, hp], by rw [devEndFrame_opMode, hp], ?_⟩
  rw [status_devEndFrame_of_counting (by rw [hp]; exact hw) (by rw [hp]; exact hd) hn hst, hp]

/-- The poll that counts a Forced conversion to its end. -/
theorem poll_converts {cfg : Params} {x : List Byte} {rest : List (List Byte)} (hl : x.length = 8)
    (ha : (wireAddr cfg.addrData).toNat + 8 ≤ 128) (hst : wireAddr cfg.addrStatus ∉ devDataRegion cfg) {d : Device}
    (hw : memWf d.reg = true) (hk : d.stuck = false) (hc : d.conv = 1) (hm : d.opMode = .forced)
    (hs : d.samples = x :: rest) : Converted cfg x rest (devEndFrame cfg (d.polled cfg)) := by
  rw [polled_of_counting hk (by omega), devCountOne_of_last cfg (d := d.addressedAt cfg.addrStatus true) hc]
  exact converted_devComplete hl ha hst (d := d.addressedAt cfg.addrStatus true) hw hm hs _

/-- Settles O19: a Forced write triggers, a poll counts down, and the frame in which the count ends stores the sample. -/
theorem referenceDeviceConverts : Obligations.ReferenceDeviceConverts := by
  intro s x rest hk hw hd hs hl ha hst
  refine ⟨fun v hv hn => ?_, fun v hv hn => ?_, fun hi hstuck hc => ?_, fun hi hstuck hc hm => ?_, fun v hv hne => ?_,
    fun hi hm => ?_⟩
  · obtain ⟨t, ht, hdev⟩ := exec_bwr_of_reference s.cfg.addrCtrlMeas v hk
    refine ⟨t, ht, ?_⟩
    rw [hdev]
    exact forcedWrite_triggers (d := s.dev.addressedAt s.cfg.addrCtrlMeas false) hw hd rfl hv hn
  · obtain ⟨t, ht, hdev⟩ := exec_bwr_of_reference s.cfg.addrCtrlMeas v hk
    refine ⟨t, ht, ?_⟩
    rw [hdev]
    exact forcedWrite_converts hl ha hst (d := s.dev.addressedAt s.cfg.addrCtrlMeas false) hw rfl hv hn hs
  · obtain ⟨t, ht, hdev⟩ := exec_poll_of_reference hk hi
    refine ⟨t, ht, ?_⟩
    rw [hdev]
    exact poll_counts hw hd hst hstuck hc
  · obtain ⟨t, ht, hdev⟩ := exec_poll_of_reference hk hi
    refine ⟨t, ht, ?_⟩
    rw [hdev]
    exact poll_converts hl ha hst hw hstuck hc hm hs
  · obtain ⟨t, ht, hdev⟩ := exec_bwr_of_reference s.cfg.addrCtrlMeas v hk
    exact ⟨t, ht, by rw [hdev, devEndFrame_opMode, normalWrite_opMode rfl hv hne]⟩
  · obtain ⟨t, ht, hdev⟩ := exec_poll_of_reference hk hi
    exact ⟨t, ht, by rw [hdev, devEndFrame_opMode, polled_opMode_of_normal hm]⟩

/-! ## Oversampling (R47, R70, R286 b, c) -/

theorem ctrlT_packCtrl (t p : BitVec 3) (m : BitVec 2) : ctrlT (packCtrl t p m) = t := by revert t p m; decide

theorem ctrlP_packCtrl (t p : BitVec 3) (m : BitVec 2) : ctrlP (packCtrl t p m) = p := by revert t p m; decide

theorem ctrlMode_packCtrl (t p : BitVec 3) (m : BitVec 2) : ctrlMode (packCtrl t p m) = m := by revert t p m; decide

theorem osrsH_packHum (h : BitVec 3) : (packHum h).extractLsb' 0 3 = h := by revert h; decide

/-- The oversampling that a combined control value carries. -/
def Oversampling.withControl (o : Oversampling) (v : Byte) : Oversampling := { o with t := ctrlT v, p := ctrlP v }

theorem withControl_packCtrl (o : Oversampling) (t p : BitVec 3) (m : BitVec 2) :
    o.withControl (packCtrl t p m) = { o with t := t, p := p } := by
  simp only [Oversampling.withControl, ctrlT_packCtrl, ctrlP_packCtrl]

/-- The reaction to the mode is nothing to the oversampling. -/
theorem devControl_oversampling (cfg : Params) (v : Byte) (d : Device) :
    (devControl cfg v d).pending = d.pending.withControl v ∧
      (devControl cfg v d).active =
        if devModeOf cfg (ctrlMode v) = .sleep then d.pending else d.pending.withControl v := by
  simp only [devControl]
  split
  · unfold devTrigger
    split <;> exact ⟨rfl, rfl⟩
  · exact ⟨rfl, rfl⟩
  · unfold devIdle
    split <;> exact ⟨rfl, rfl⟩

theorem devStore_ctrlHum {cfg : Params} {v : Byte} {d : Device} (hp : d.ptr = wireAddr cfg.addrCtrlHum)
    (hne : wireAddr cfg.addrCtrlHum ≠ wireAddr cfg.addrCtrlMeas) :
    devStore cfg v d = { d with
      reg := memWrite d.reg d.ptr.toNat v, pending := { d.pending with h := v.extractLsb' 0 3 } } := by
  rw [devStore, if_neg (hp.trans_ne hne), if_pos hp]

/-- A write of the combined control register puts what was pending into effect; with a code other than Sleep its own
oversampling too. -/
theorem write_ctrlMeas_oversampling (m : BitVec 2) {s : State} (h : s.dev.kind = .reference) :
    ∃ t, endCommand (.done (busWrite s.cfg.addrCtrlMeas (packCtrl s.cfg.osrsT s.cfg.osrsP m) s)) = .next t ∧
      t.cfg = s.cfg ∧ t.dev.kind = .reference ∧
      t.dev.pending = { s.dev.pending with t := s.cfg.osrsT, p := s.cfg.osrsP } ∧
      t.dev.active = if devModeOf s.cfg m = .sleep then s.dev.pending
        else { s.dev.pending with t := s.cfg.osrsT, p := s.cfg.osrsP } := by
  refine ⟨_, rfl, by rw [finish_cfg, busWrite_cfg], by rw [finish_dev, busWrite_kind _ _ h], ?_⟩
  rw [finish_dev, busWrite_of_reference _ _ h, devEndFrame_pending, devEndFrame_active, devStore_ctrlMeas rfl]
  generalize hv : packCtrl s.cfg.osrsT s.cfg.osrsP m = v
  have hc := devControl_oversampling s.cfg v { s.dev.addressedAt s.cfg.addrCtrlMeas false with
    reg := memWrite s.dev.reg (wireAddr s.cfg.addrCtrlMeas).toNat v }
  rw [← hv, withControl_packCtrl, ctrlMode_packCtrl] at hc
  subst hv
  exact hc

/-- WRHUM makes its oversampling pending. -/
theorem wrhum_oversampling {s : State} (h : s.dev.kind = .reference)
    (hne : wireAddr s.cfg.addrCtrlHum ≠ wireAddr s.cfg.addrCtrlMeas) :
    ∃ t, exec .wrhum s = .next t ∧ t.cfg = s.cfg ∧ t.dev.kind = .reference ∧
      t.dev.pending = { s.dev.pending with h := s.cfg.osrsH } ∧ t.dev.active = s.dev.active := by
  refine ⟨_, rfl, by rw [finish_cfg, busWrite_cfg], by rw [finish_dev, busWrite_kind _ _ h], ?_⟩
  rw [finish_dev, busWrite_of_reference _ _ h, devEndFrame_pending, devEndFrame_active, devStore_ctrlHum rfl hne,
    osrsH_packHum]
  exact ⟨rfl, rfl⟩

/-- Settles O20: WROS makes T and P pending, WRHUM H, and WRCTL puts into effect what is pending, with T and P written
again. -/
theorem oversamplingTakesEffectAtTheLastWrite : Obligations.OversamplingTakesEffectAtTheLastWrite := by
  intro s hk hne hsleep
  obtain ⟨a, ha, cfga, ka, pa, ea⟩ := write_ctrlMeas_oversampling s.cfg.modeSleep hk
  rw [if_pos hsleep] at ea
  obtain ⟨b, hb, cfgb, kb, pb, eb⟩ := wrhum_oversampling ka (by rwa [cfga])
  obtain ⟨c, hc, -, -, -, ec⟩ := write_ctrlMeas_oversampling b.mode kb
  refine ⟨a, b, c, ha, hb, hc, ea, eb.trans ea, ?_⟩
  rw [ec, pb, pa, cfgb, cfga, ite_self]

end Sys2Proof.Machine
end

section
/-! What write frames store in a device, what read frames deliver of it and leave in it (spec 20_memory.md R66 to R69, R73,
R74, R79, 40_bus_transport.md R126). -/

namespace Sys2Proof.Machine

/-! ## Bursts of known answers (R73, R126) -/

/-- A BRD that the receive buffer holds is a read frame. -/
theorem exec_brd_of_fits (a : Byte) {n : Byte} {s : State} (h : n.toNat ≤ rxbufLen s.cfg) :
    exec (.brd a n) s = .next (finish (readFrame (readByte a) n.toNat s).2) :=
  if_pos (decide_eq_true h)

/-- Settles O14: the burst is the bytes the device is known to answer, and a read frame stores and records its burst. -/
theorem brdDeliversAnyBytes : Obligations.BrdDeliversAnyBytes := by
  intro a s bs rest hfit hlt ha
  have hn : (BitVec.ofNat 8 bs.length).toNat = bs.length := Nat.mod_eq_of_lt hlt
  obtain ⟨hbytes, hdev, hdraws⟩ := readFrame_of_answers (w := readByte a) ha
  have hframe := readFrame_eq (readByte a) bs.length s
  rw [hbytes, hdev, hdraws] at hframe
  refine ⟨_, exec_brd_of_fits a (hn.symm ▸ hfit), ?_⟩
  rw [hn, hframe]
  exact ⟨rfl, rfl, ⟨ha.1, (List.append_nil rest).symm⟩, rfl, rfl⟩

/-! ## Bursts of a reference device (R66, R74) -/

/-- A read frame is a burst from the location its address byte names, and then the frame ends. -/
theorem readFrame_of_reference (w : Byte) (n : Nat) {s : State} (h : s.dev.kind = .reference) :
    let r := devBurst s.cfg n (s.dev.addressedAt w (w.getLsbD 7))
    (readFrame w n s).1 = r.1 ∧ (readFrame w n s).2.dev = devEndFrame s.cfg r.2 := by
  intro r
  have hhead : (sendByte w (select s)).dev = s.dev.addressedAt w (w.getLsbD 7) := dev_after_address h
  obtain ⟨hbytes, hdev, -⟩ := recvBytes_of_reference n (s := sendByte w (select s)) (hhead ▸ h)
  rw [hhead, sendByte_cfg, select_cfg] at hbytes hdev
  have hkind : (recvBytes n (sendByte w (select s))).2.dev.kind = .reference := by
    rw [hdev, devBurst_kind]
    exact h
  refine ⟨hbytes, ?_⟩
  rw [readFrame, deselect_of_reference (s := storeRx _ _) hkind, storeRx_cfg, storeRx_dev, recvBytes_cfg, sendByte_cfg,
    select_cfg, hdev]

/-- Byte i of a burst is what location i from the pointer on held before the burst: the device changes a location only once
it has answered it, and up to 0x7F the pointer does not come back. -/
theorem byteAt_devBurst {cfg : Params} {n i : Nat} {d : Device} (hw : memWf d.reg = true) (hi : i < n)
    (hp : d.ptr.toNat + i ≤ 0x7F) : byteAt (devBurst cfg n d).1 i = memRead d.reg (d.ptr.toNat + i) := by
  induction n generalizing d i with
  | zero => omega
  | succ n ih =>
    cases i with
    | zero => rfl
    | succ i =>
      have hnext : (devAfterRx cfg d).ptr.toNat = d.ptr.toNat + 1 := devNextPtr_toNat (by omega)
      have hx : (BitVec.ofNat 7 (d.ptr.toNat + 1 + i)).toNat = d.ptr.toNat + 1 + i := Nat.mod_eq_of_lt (by omega)
      have hne : BitVec.ofNat 7 (d.ptr.toNat + 1 + i) ≠ d.ptr := fun e => by rw [e] at hx; omega
      have hkept := memRead_devAfterRx (cfg := cfg) hw (.inl hne)
      rw [hx] at hkept
      calc byteAt (devBurst cfg (n + 1) d).1 (i + 1) = byteAt (devBurst cfg n (devAfterRx cfg d)).1 i := rfl
        _ = memRead (devAfterRx cfg d).reg (d.ptr.toNat + 1 + i) := by
          rw [ih (devAfterRx_wf hw) (by omega) (by omega), hnext]
        _ = memRead d.reg (d.ptr.toNat + (i + 1)) := by rw [hkept, Nat.add_assoc, Nat.add_comm 1]

/-- Settles O18: BRD is a read frame, and its bytes are those of the device's burst. -/
theorem referenceDeviceAnswersABurst : Obligations.ReferenceDeviceAnswersABurst := by
  intro a n s hk hw hn
  obtain ⟨hbytes, -⟩ := readFrame_of_reference (readByte a) n.toNat hk
  refine ⟨_, _, exec_brd_of_fits a hn, readFrame_length (readByte a) _ s, ?_, ?_, fun i hi hle => ?_⟩
  · rw [finish_rxbuf, readFrame_rxbuf]
  · rw [finish_hist, readFrame_eq]
    rfl
  · rw [hbytes]
    rw [← wireAddr_readByte] at hle ⊢
    exact byteAt_devBurst (d := s.dev.addressedAt (readByte a) _) hw hi hle

/-! ## Write frames to a reference device (R67 to R69, R74) -/

/-- Of the device's memory the reaction to a combined control value changes the status register at most. -/
theorem memRead_devControl {cfg : Params} {v : Byte} {d : Device} {x : BitVec 7} (hw : memWf d.reg = true)
    (hx : x ≠ wireAddr cfg.addrStatus) : memRead (devControl cfg v d).reg x.toNat = memRead d.reg x.toNat := by
  have hbit (on : Bool) {e : Device} (he : e.reg = d.reg) :
      memRead (devStatusBit cfg on e).reg x.toNat = memRead d.reg x.toNat := by
    rw [memRead_devStatusBit (he ▸ hw) hx, he]
  simp only [devControl]
  split
  · unfold devTrigger
    split
    · exact hbit false rfl
    · exact hbit true rfl
  · exact hbit true rfl
  · unfold devIdle
    split
    · exact hbit false rfl
    · rfl

/-- Outside the status register a data byte is stored where the pointer is, and nothing else changes. -/
theorem memRead_devStore {cfg : Params} {v : Byte} {d : Device} {x : BitVec 7} (hw : memWf d.reg = true)
    (hx : x ≠ wireAddr cfg.addrStatus) :
    memRead (devStore cfg v d).reg x.toNat = memRead (memWrite d.reg d.ptr.toNat v) x.toNat := by
  unfold devStore
  split
  · exact memRead_devControl (memWf_memWrite v hw d.ptr.isLt) hx
  · split <;> rfl

/-- Elsewhere than at the combined control register a data byte is stored, and a quiet device stays quiet. -/
theorem devStore_elsewhere {cfg : Params} {v : Byte} {d : Device} (hp : d.ptr ≠ wireAddr cfg.addrCtrlMeas) (hq : Quiet d) :
    (devStore cfg v d).reg = memWrite d.reg d.ptr.toNat v ∧ Quiet (devStore cfg v d) := by
  rw [devStore, if_neg hp]
  split <;> exact ⟨rfl, hq⟩

theorem devEndFrame_of_Quiet {cfg : Params} {d : Device} (h : Quiet d) : devEndFrame cfg d = d :=
  devEndFrame_of_quiet h.2 (.inl h.1)

/-- A write frame to a device leaves its byte where the pointer is and every other location as it was, the device's own
where it does not write them itself. -/
theorem memRead_devEndFrame_devStore {cfg : Params} {v : Byte} {d : Device} {x : BitVec 7} (hw : memWf d.reg = true)
    (h : x ∉ devOwn cfg ∨ (Quiet d ∧ d.ptr ≠ wireAddr cfg.addrCtrlMeas)) :
    memRead (devEndFrame cfg (devStore cfg v d)).reg x.toNat =
      if x.toNat = d.ptr.toNat then v else memRead d.reg x.toNat := by
  rw [← memRead_memWrite v hw]
  rcases h with hown | ⟨hq, hp⟩
  · have hs : x ≠ wireAddr cfg.addrStatus := fun e => hown (e ▸ List.mem_cons_self)
    rw [memRead_devEndFrame (devStore_wf hw) hown, memRead_devStore hw hs]
  · obtain ⟨hreg, hq'⟩ := devStore_elsewhere (v := v) hp hq
    rw [devEndFrame_of_Quiet hq', hreg]

/-- A write frame stores its byte in the location its address byte names. -/
theorem sendFrame_storesByte {w : Byte} (d : Byte) {s : State} (hk : s.dev.kind = .reference) (hm : memWf s.dev.reg = true)
    (hw : w.getLsbD 7 = false) : StoresByte s.cfg (wireAddr w) d s.dev (sendFrame w d s).dev := by
  have hread (x : BitVec 7) (hx : ¬(x ∈ devOwn s.cfg ∧ ¬(Quiet s.dev ∧ wireAddr w ≠ wireAddr s.cfg.addrCtrlMeas))) :
      memRead (sendFrame w d s).dev.reg x.toNat =
        if x.toNat = (wireAddr w).toNat then d else memRead s.dev.reg x.toNat := by
    rw [sendFrame_of_reference hk hw]
    exact memRead_devEndFrame_devStore (d := s.dev.addressedAt w false) hm ((not_and_or.mp hx).imp_right not_not.mp)
  refine ⟨fun x hne hx => ?_, fun hx => ?_⟩
  · rw [hread x hx, if_neg fun e => hne (BitVec.eq_of_toNat_eq e)]
  · rw [hread _ hx, if_pos rfl]

/-- A single-byte write stores its byte in the location it names. -/
theorem busWrite_storesByte (a d : Byte) {s : State} (hk : s.dev.kind = .reference) (hm : memWf s.dev.reg = true) :
    StoresByte s.cfg (wireAddr a) d s.dev (busWrite a d s).dev :=
  wireAddr_writeByte a ▸ sendFrame_storesByte d hk hm (writeByte_bit7 a)

/-- Settles O16: each instruction that writes is one write frame. -/
theorem writesStoreOneByteOfTheDevice : Obligations.WritesStoreOneByteOfTheDevice := by
  intro s hk hm
  have hwire (a : BitVec 7) : wireAddr (0#1 ++ a) = a := by simp only [wireAddr]; revert a; decide
  refine ⟨fun a d => ⟨_, rfl, busWrite_storesByte a d hk hm⟩, fun a d => ⟨_, rfl, ?_⟩,
    ⟨_, rfl, busWrite_storesByte _ _ hk hm⟩, ⟨_, rfl, busWrite_storesByte _ _ hk hm⟩,
    ⟨_, rfl, busWrite_storesByte _ _ hk hm⟩⟩
  have h := sendFrame_storesByte d hk hm (frameByte_bit7 0#1 a)
  rwa [hwire] at h

/-! ## Read frames, to a device of either kind (R69, R74, R79) -/

/-- From `v` to `v'` every location stays, but for the device's own while it may write them itself. -/
def KeepsLocations (cfg : Params) (v v' : Device) : Prop :=
  ∀ x : BitVec 7, x ∉ devOwn cfg ∨ (Quiet v ∧ v.conv = 0) → memRead v'.reg x.toNat = memRead v.reg x.toNat

theorem KeepsLocations.of_reg {cfg : Params} {v v' : Device} (h : v'.reg = v.reg) : KeepsLocations cfg v v' :=
  fun _ _ => by rw [h]

theorem oracle_of_oracle {s : State} (h : s.dev.kind = .oracle) :
    (oracle s).2.dev.kind = .oracle ∧ (oracle s).2.dev.reg = s.dev.reg := by
  simp only [oracle, h]
  split
  · exact ⟨rfl, rfl⟩
  · exact ⟨h, rfl⟩

theorem recvBytes_of_oracle (n : Nat) {s : State} (h : s.dev.kind = .oracle) :
    (recvBytes n s).2.dev.kind = .oracle ∧ (recvBytes n s).2.dev.reg = s.dev.reg := by
  induction n generalizing s with
  | zero => exact ⟨h, rfl⟩
  | succ n ih =>
    obtain ⟨hkind, hreg⟩ := oracle_of_oracle h
    have hbyte : (recvByte s).2.dev = (oracle s).2.dev := devObserve_rx ..
    obtain ⟨hkind', hreg'⟩ := ih (s := (recvByte s).2) (hbyte ▸ hkind)
    exact ⟨hkind', hreg'.trans (hbyte ▸ hreg)⟩

/-- A read frame changes no location of a device of the oracle kind. -/
theorem readFrame_reg_of_oracle (w : Byte) (n : Nat) {s : State} (h : s.dev.kind = .oracle) :
    (readFrame w n s).2.dev.reg = s.dev.reg := by
  have hselect := select_dev_of_oracle h
  have hhead : (sendByte w (select s)).dev = s.dev := (sendByte_dev_of_oracle (hselect ▸ h)).trans hselect
  obtain ⟨hkind, hreg⟩ := recvBytes_of_oracle n (s := sendByte w (select s)) (hhead ▸ h)
  rw [readFrame, deselect_dev_of_oracle (s := storeRx _ _) hkind, storeRx_dev, hreg, hhead]

/-- While it answers a device changes its status register at most. -/
theorem memRead_devBurst {cfg : Params} (n : Nat) {d : Device} {x : BitVec 7} (hw : memWf d.reg = true)
    (hx : x ≠ wireAddr cfg.addrStatus) : memRead (devBurst cfg n d).2.reg x.toNat = memRead d.reg x.toNat := by
  induction n generalizing d with
  | zero => rfl
  | succ n ih => exact (ih (devAfterRx_wf hw)).trans (memRead_devAfterRx hw (.inr hx))

theorem devBurst_wf {cfg : Params} (n : Nat) {d : Device} (hw : memWf d.reg = true) :
    memWf (devBurst cfg n d).2.reg = true := by
  induction n generalizing d with
  | zero => exact hw
  | succ n ih => exact ih (devAfterRx_wf hw)

/-- Where no conversion counts, a burst moves the pointer only. -/
theorem devBurst_of_idle (cfg : Params) (n : Nat) {d : Device} (hc : d.conv = 0) :
    ∃ p, (devBurst cfg n d).2 = { d with ptr := p } := by
  induction n generalizing d with
  | zero => exact ⟨d.ptr, rfl⟩
  | succ n ih =>
    have hrx : devAfterRx cfg d = { d with ptr := devNextPtr d.ptr } := by
      rw [devAfterRx, devCountDown, if_neg fun h => h.2.1 hc]
    obtain ⟨p, hp⟩ := ih (d := devAfterRx cfg d) (by rw [hrx]; exact hc)
    exact ⟨p, hp.trans (by rw [hrx])⟩

/-- A read frame keeps every location. -/
theorem readFrame_keepsLocations (w : Byte) (n : Nat) {s : State} (hm : memWf s.dev.reg = true) :
    KeepsLocations s.cfg s.dev (readFrame w n s).2.dev := by
  cases hk : s.dev.kind with
  | oracle => exact .of_reg (readFrame_reg_of_oracle w n hk)
  | reference =>
    obtain ⟨-, hdev⟩ := readFrame_of_reference w n hk
    rw [hdev]
    rintro x (hown | ⟨hq, hc⟩)
    · have hs : x ≠ wireAddr s.cfg.addrStatus := fun e => hown (e ▸ List.mem_cons_self)
      rw [memRead_devEndFrame (devBurst_wf n (d := s.dev.addressedAt w _) hm) hown]
      exact memRead_devBurst n (d := s.dev.addressedAt w _) hm hs
    · obtain ⟨p, hp⟩ := devBurst_of_idle s.cfg n (d := s.dev.addressedAt w _) hc
      rw [hp, devEndFrame_of_Quiet (by exact hq)]
      rfl

/-! ## The instructions that write no device register -/

theorem Ends.dev {o : MicroOut} {t : State} (h : Ends o t) : t.dev = o.state.dev := by cases h <;> rfl

/-- A micro-operation of the compensation or the output stage has nothing to do with the device. -/
theorem MicroEffect.dev_of_stage {s : State} {i : Instr} {o : MicroOut} (h : MicroEffect s i o)
    (hi : i ∈ [.cmpt, .cmpp, .cmph, .scale, .alt]) : o.state.dev = s.dev := by
  cases h with
  | refused | cmpt | cmpp | cmph | scale | alt => rfl
  | frame hf hb =>
    have hnone : ∀ j ∈ [Instr.cmpt, .cmpp, .cmph, .scale, .alt], isFrame j = false := by decide
    exact absurd (hf.symm.trans (hnone i hi)) (by decide)
  | _ => exact absurd hi (by decide)

section
variable {s : State} (hm : memWf s.dev.reg = true)
include hm

theorem microRdid_keepsLocations : KeepsLocations s.cfg s.dev (microRdid s).state.dev := by
  have h := readFrame_keepsLocations (readByte s.cfg.addrId) lenId hm
  simp only [microRdid]
  split <;> exact h

theorem microLdcala_keepsLocations : KeepsLocations s.cfg s.dev (microLdcala s).state.dev := by
  unfold microLdcala
  split
  · exact .of_reg rfl
  · exact readFrame_keepsLocations (readByte s.cfg.addrCalA) lenCalA hm

theorem microLdcalb_keepsLocations : KeepsLocations s.cfg s.dev (microLdcalb s).state.dev := by
  unfold microLdcalb
  split
  · exact .of_reg rfl
  · exact readFrame_keepsLocations (readByte s.cfg.addrCalB) lenCalB hm

theorem microPollOnce_keepsLocations : KeepsLocations s.cfg s.dev (microPollOnce s).state.dev := by
  have h := readFrame_keepsLocations (readByte s.cfg.addrStatus) lenStatus hm
  simp only [microPollOnce]
  split
  · split
    · exact h
    · simp only [MicroOut.state_again, emit_dev, devObserve_dly]
      exact h
  · exact h

theorem microPoll_keepsLocations : KeepsLocations s.cfg s.dev (microPoll s).state.dev := by
  unfold microPoll
  split
  · exact microPollOnce_keepsLocations (s := { s with pollCnt := 0 }) hm
  · exact .of_reg rfl

theorem microRdraw_keepsLocations : KeepsLocations s.cfg s.dev (microRdraw s).state.dev := by
  unfold microRdraw
  split
  · exact readFrame_keepsLocations (readByte s.cfg.addrData) lenData hm
  · exact .of_reg rfl

/-- A read frame that the host issues is refused, or it keeps every location. -/
theorem readCommand_keepsLocations {t : State} (w n : Byte)
    (ht : (if burstFits (rxbufLen s.cfg) n then endCommand (.done (readFrame w n.toNat s).2)
      else endCommand (.raised .badCmd s)) = .next t) : KeepsLocations s.cfg s.dev t.dev := by
  split at ht
  · rw [(ends_of_endCommand ht).dev]
    exact readFrame_keepsLocations w n.toNat hm
  · rw [(ends_of_endCommand ht).dev]
    exact .of_reg rfl

end

theorem execInit_dev {m : BitVec 2} {s t : State} (ht : execInit m s = .next t) : t.dev = s.dev := by
  unfold execInit at ht
  split at ht
  · cases ht; rfl
  · split at ht <;> cases ht <;> rfl

theorem execMeas_dev {s t : State} (ht : execMeas s = .next t) : t.dev = s.dev := by
  unfold execMeas at ht
  split at ht <;> cases ht <;> rfl

/-- Settles O17: an instruction that does not write is one read frame, or nothing to the device. -/
theorem readsStoreNothingInTheDevice : Obligations.ReadsStoreNothingInTheDevice := by
  intro i s t hwrites hbwr hwire hm ht
  change KeepsLocations s.cfg s.dev t.dev
  have reads {o : MicroOut} (h : KeepsLocations s.cfg s.dev o.state.dev) (ho : endCommand o = .next t) :
      KeepsLocations s.cfg s.dev t.dev := (ends_of_endCommand ho).dev ▸ h
  have computes {j : Instr} {o : MicroOut} (he : MicroEffect s j o) (hj : j ∈ [.cmpt, .cmpp, .cmph, .scale, .alt])
      (ho : endCommand o = .next t) : KeepsLocations s.cfg s.dev t.dev :=
    reads (.of_reg (congrArg Device.reg (he.dev_of_stage hj))) ho
  cases i with
  | wireW a d => exact absurd rfl (hwire a d)
  | bwr a d => exact absurd rfl (hbwr a d)
  | wros | wrhum | wrctl => exact absurd (by decide) hwrites
  | wireR a n => exact readCommand_keepsLocations hm (1#1 ++ a) n ht
  | brd a n => exact readCommand_keepsLocations hm (readByte a) n ht
  | init m => exact .of_reg (congrArg Device.reg (execInit_dev ht))
  | meas => exact .of_reg (congrArg Device.reg (execMeas_dev ht))
  | rdid => exact reads (microRdid_keepsLocations hm) ht
  | ldcala => exact reads (microLdcala_keepsLocations hm) ht
  | ldcalb => exact reads (microLdcalb_keepsLocations hm) ht
  | poll => exact reads (microPoll_keepsLocations hm) ht
  | rdraw => exact reads (microRdraw_keepsLocations hm) ht
  | cmpt => exact computes (microCmpt_effect s) (by decide) ht
  | cmpp => exact computes (microCmpp_effect s) (by decide) ht
  | cmph => exact computes (microCmph_effect s) (by decide) ht
  | scale => exact computes (microScale_effect s) (by decide) ht
  | alt => exact computes (microAlt_effect s) (by decide) ht

end Sys2Proof.Machine
end

section
/-! The block never stops in a legal control state: every instruction and every step of a micro-program has a next state
(spec 20_memory.md R73, 42_measure.md R175, 60_exceptions.md R256). -/

namespace Sys2Proof.Machine

/-- The outcome is a next state. -/
def Continues (r : Host.Outcome State Fault Refusal) : Prop := ∃ t, r = .next t

/-! ## However a micro-operation ends, the block goes on -/

theorem endCommand_continues (o : MicroOut) : Continues (endCommand o) := by
  cases o <;> exact ⟨_, rfl⟩

theorem toStep_continues (p : BitVec 2) (k : BitVec 3) (o : MicroOut) : Continues (toStep p k o) := by
  cases o <;> exact ⟨_, rfl⟩

theorem endInit_continues (o : MicroOut) : Continues (endInit o) := by
  cases o <;> exact ⟨_, rfl⟩

theorem endMeas_continues (o : MicroOut) : Continues (endMeas o) := by
  cases o <;> exact ⟨_, rfl⟩

/-! ## Acceptance -/

theorem execInit_continues (m : BitVec 2) (s : State) : Continues (execInit m s) := by
  unfold execInit
  split
  · exact ⟨_, rfl⟩
  · split <;> exact ⟨_, rfl⟩

theorem execMeas_continues (s : State) : Continues (execMeas s) := by
  unfold execMeas
  split <;> exact ⟨_, rfl⟩

/-- No instruction faults or is refused. -/
theorem exec_continues (i : Instr) (s : State) : Continues (exec i s) := by
  by_cases hinit : ∃ m, i = .init m
  · obtain ⟨m, rfl⟩ := hinit
    exact execInit_continues m s
  · by_cases hmeas : i = .meas
    · subst hmeas
      exact execMeas_continues s
    · obtain ⟨o, -, ho⟩ := exec_effect (fun m e => hinit ⟨m, e⟩) hmeas s
      exact ho ▸ endCommand_continues o

theorem accept_continues (r : Request) (s : State) : Continues (accept r s) := by
  rcases accept_cases r s with ⟨i, -, ha⟩ | ⟨-, ha⟩
  · exact ha ▸ exec_continues i _
  · exact ⟨_, ha⟩

/-! ## The running command -/

theorem runInit_continues {s : State} (k : Fin 6) (hu : s.upc = upcAt progInit k) : Continues (runBusy s) := by
  rw [runBusy_init k hu]
  match k with
  | 0 | 1 | 2 | 3 | 4 => exact toStep_continues ..
  | 5 => exact endInit_continues _

theorem measRearm_continues (s : State) : Continues (measRearm s) := by
  unfold measRearm
  split
  · exact toStep_continues ..
  · exact ⟨_, rfl⟩

theorem runMeas_continues {s : State} (k : Fin 8) (hu : s.upc = upcAt progMeas k) : Continues (runBusy s) := by
  rw [runBusy_meas k hu]
  match k with
  | 0 => exact measRearm_continues s
  | 1 | 2 | 3 | 4 | 5 | 6 => exact toStep_continues ..
  | 7 => exact endMeas_continues _

theorem runPoll_continues {s : State} (hl : InPoll s) : Continues (runBusy s) := by
  have hloop : runBusy s = endCommand (microPollOnce s) := by
    rw [runBusy, hl.upc, if_neg (by decide), if_neg (by decide), if_pos ⟨by decide, hl.polling⟩]
  exact hloop ▸ endCommand_continues _

/-- A busy block in a legal control state has no reserved UPC (R40). -/
theorem ControlOk.runBusy_continues {s : State} (hs : ControlOk s) (hb : s.busy = true) : Continues (runBusy s) := by
  rcases upc_cases s.upc with ⟨k, hu⟩ | ⟨k, hu⟩ | hu | ⟨hmeas, hzero, hinit⟩
  · exact runInit_continues k hu
  · exact runMeas_continues k hu
  · exact runPoll_continues (hs.inPoll hb hu)
  · rcases hs.running hb with h | h | h
    · exact absurd (h.idx.trans_lt (hinit h.prog)) (lt_irrefl _)
    · exact absurd h.prog hmeas
    · exact absurd (by rw [h.upc]; rfl) hzero

/-- Settles O51: RST and idling have a next state, an accepted request has one, and so has the running command. -/
theorem theBlockAlwaysHasAStep : Obligations.TheBlockAlwaysHasAStep := by
  intro s hs
  rcases step_cases s with ⟨h, -, hstep⟩ | ⟨hb, h, hstep⟩ | ⟨-, r, h, -, hstep⟩ | ⟨-, h, hstep⟩
  · exact ⟨_, hstep⟩
  · exact hstep ▸ (hs.withHost h).runBusy_continues hb
  · exact hstep ▸ accept_continues r { s with host := h }
  · exact ⟨_, hstep⟩

end Sys2Proof.Machine
end

section
/-! The decoder and the encoder are inverse, and which words the decoder refuses (spec 30_encoding.md R91, R92, R102 to
R105, 60_exceptions.md R254). -/

namespace Sys2Proof.Machine

/-! ## The bytes of a command word (R102) -/

theorem cmdOp_append (op a b : Byte) : cmdOp (op ++ a ++ b) = op := by
  apply BitVec.eq_of_toNat_eq
  have ha := a.isLt
  have hb := b.isLt
  rw [cmdOp, BitVec.extractLsb'_toNat, Laws.toNat_cmd, Nat.shiftRight_eq_div_pow]
  omega

theorem cmdA_append (op a b : Byte) : cmdA (op ++ a ++ b) = a := by
  apply BitVec.eq_of_toNat_eq
  have hb := b.isLt
  rw [cmdA, BitVec.extractLsb'_toNat, Laws.toNat_cmd, Nat.shiftRight_eq_div_pow]
  omega

theorem cmdB_append (op a b : Byte) : cmdB (op ++ a ++ b) = b := by
  apply BitVec.eq_of_toNat_eq
  rw [cmdB, BitVec.extractLsb'_toNat, Laws.toNat_cmd, Nat.shiftRight_zero]
  omega

theorem cmdOp_toNat (w : BitVec 24) : (cmdOp w).toNat = w.toNat / 65536 := by
  have hw := w.isLt
  rw [cmdOp, BitVec.extractLsb'_toNat, Nat.shiftRight_eq_div_pow]
  omega

theorem cmdA_toNat (w : BitVec 24) : (cmdA w).toNat = w.toNat / 256 % 256 := by
  rw [cmdA, BitVec.extractLsb'_toNat, Nat.shiftRight_eq_div_pow]

theorem cmdB_toNat (w : BitVec 24) : (cmdB w).toNat = w.toNat % 256 := by
  rw [cmdB, BitVec.extractLsb'_toNat, Nat.shiftRight_zero]

/-- A command word is its three bytes. -/
theorem cmdWord_bytes (w : BitVec 24) : cmdWord (cmdOp w) (cmdA w) (cmdB w) = .cmd w := by
  have h : cmdOp w ++ cmdA w ++ cmdB w = w := by
    apply BitVec.eq_of_toNat_eq
    rw [Laws.toNat_cmd, cmdOp_toNat, cmdA_toNat, cmdB_toNat]
    omega
  rw [cmdWord, h]

theorem decode_cmdWord (len : Nat) (op a b : Byte) : decode len (cmdWord op a b) = decodeOp len op a b := by
  rw [cmdWord, decode, cmdOp_append, cmdA_append, cmdB_append]

/-! ## The operation-code map, its commands without operands apart (R103, R104) -/

/-- The commands without operands, by operation code (R103). -/
def plainInstr (op : Byte) : Option Instr :=
  if op = 0x11 then some .meas
  else if op = 0x20 then some .rdid
  else if op = 0x21 then some .ldcala
  else if op = 0x22 then some .ldcalb
  else if op = 0x23 then some .wros
  else if op = 0x24 then some .wrhum
  else if op = 0x25 then some .wrctl
  else if op = 0x30 then some .poll
  else if op = 0x31 then some .rdraw
  else if op = 0x40 then some .cmpt
  else if op = 0x41 then some .cmpp
  else if op = 0x42 then some .cmph
  else if op = 0x50 then some .scale
  else if op = 0x51 then some .alt
  else none

/-- What the decoder makes of the operand bytes once the table of plain commands has answered. -/
def decodeAs (i : Option Instr) (a b : Byte) : Except DecodeError Instr :=
  i.elim (.error .unknownOp) fun i => decodePlain i a b

theorem decodeOp_bwr (len : Nat) (a b : Byte) : decodeOp len 0x01 a b = .ok (.bwr a b) := rfl

theorem decodeOp_brd (len : Nat) (a b : Byte) :
    decodeOp len 0x02 a b = if burstFits len b then .ok (.brd a b) else .error .burstTooLong := rfl

theorem decodeOp_init (len : Nat) (a b : Byte) : decodeOp len 0x10 a b = decodeInit a b := rfl

/-- Any other operation code is looked up in the table. -/
theorem decodeOp_plain (len : Nat) {op : Byte} (a b : Byte) (h1 : op ≠ 0x01) (h2 : op ≠ 0x02) (h10 : op ≠ 0x10) :
    decodeOp len op a b = decodeAs (plainInstr op) a b := by
  simp only [decodeOp, if_neg h1, if_neg h2, if_neg h10, plainInstr, apply_ite (decodeAs · a b)]
  rfl

/-- What a receive buffer holds, a longer one holds. -/
theorem wf_mono {k len : Nat} (hk : k ≤ len) {i : Instr} (h : i.wf k = true) : i.wf len = true := by
  cases i with
  | wireR a n | brd a n =>
    have hn : n.toNat ≤ k := of_decide_eq_true h
    exact decide_eq_true (hn.trans hk)
  | _ => exact h

/-- An instruction of the table has no operand to check, and its operation code alone encodes it. -/
theorem encode_plainInstr {op : Byte} {i : Instr} (h : plainInstr op = some i) (len : Nat) :
    i.wf len = true ∧ encode i = cmdWord op 0 0 := by
  have hall : ∀ op : Byte, (plainInstr op).all (fun i => i.wf 0 ∧ encode i = cmdWord op 0 0) = true := by decide
  obtain ⟨hwf, henc⟩ := of_decide_eq_true ((Option.all_eq_true _ _).mp (hall op) i h)
  exact ⟨wf_mono (Nat.zero_le len) hwf, henc⟩

theorem plainInstr_eq_none_iff (op : Byte) : plainInstr op = none ↔
    op.toNat ∉ [0x11, 0x20, 0x21, 0x22, 0x23, 0x24, 0x25, 0x30, 0x31, 0x40, 0x41, 0x42, 0x50, 0x51] := by
  revert op; decide

/-! ## What decodes (R103 to R105) -/

theorem decodePlain_eq_ok {i j : Instr} {a b : Byte} : decodePlain i a b = .ok j ↔ (a = 0 ∧ b = 0) ∧ i = j := by
  unfold decodePlain
  split
  · simp only [Except.ok.injEq, *, true_and]
  · simp only [reduceCtorEq, *, false_and]

theorem initByte_mode (m : BitVec 2) : (0#6 ++ m).extractLsb' 0 2 = m := by revert m; decide

theorem initByte_high (m : BitVec 2) : (0#6 ++ m).extractLsb' 2 6 = 0 := by revert m; decide

/-- A byte with the upper six bits clear is its lower two. -/
theorem initByte_of_high {b : Byte} (h : b.extractLsb' 2 6 = 0) : 0#6 ++ b.extractLsb' 0 2 = b := by
  revert b; decide

theorem decodeInit_sound {a b : Byte} {i : Instr} (h : decodeInit a b = .ok i) (len : Nat) :
    i.wf len = true ∧ encode i = cmdWord 0x10 a b := by
  unfold decodeInit at h
  split_ifs at h with h0 hm
  cases h
  exact ⟨hm, by rw [encode, h0.1, initByte_of_high h0.2]⟩

theorem decodeInit_initByte {m : BitVec 2} (h : modeLegal m = true) : decodeInit 0 (0#6 ++ m) = .ok (.init m) := by
  rw [decodeInit, if_pos ⟨rfl, initByte_high m⟩, initByte_mode, if_pos h]

theorem decodeAs_sound {op a b : Byte} {i : Instr} (h : decodeAs (plainInstr op) a b = .ok i) (len : Nat) :
    i.wf len = true ∧ encode i = cmdWord op a b := by
  cases hp : plainInstr op with
  | none => rw [hp] at h; cases h
  | some j =>
    rw [hp] at h
    obtain ⟨⟨rfl, rfl⟩, rfl⟩ := decodePlain_eq_ok.mp h
    exact encode_plainInstr hp len

theorem decodeOp_sound {len : Nat} {op a b : Byte} {i : Instr} (h : decodeOp len op a b = .ok i) :
    i.wf len = true ∧ encode i = cmdWord op a b := by
  by_cases h1 : op = 0x01
  · subst h1
    rw [decodeOp_bwr] at h
    cases h
    exact ⟨rfl, rfl⟩
  by_cases h2 : op = 0x02
  · subst h2
    rw [decodeOp_brd] at h
    split_ifs at h with hb
    cases h
    exact ⟨hb, rfl⟩
  by_cases h10 : op = 0x10
  · subst h10
    exact decodeInit_sound h len
  · rw [decodeOp_plain len a b h1 h2 h10] at h
    exact decodeAs_sound h len

/-! ## Wire frames (R91, R92) -/

theorem frameByte_dir (c : BitVec 1) (a : BitVec 7) : (c ++ a).extractLsb' 7 1 = c := by revert c a; decide

theorem frameByte_addr (c : BitVec 1) (a : BitVec 7) : (c ++ a).extractLsb' 0 7 = a := by revert c a; decide

theorem frameByte_split (b : Byte) : b.extractLsb' 7 1 ++ b.extractLsb' 0 7 = b := by revert b; decide

theorem decodeFrame_write (len : Nat) (a : BitVec 7) (d : Byte) : decodeFrame len (0#1 ++ a) d = .ok (.wireW a d) := by
  rw [decodeFrame, frameByte_dir, frameByte_addr]
  exact if_pos rfl

theorem decodeFrame_read (len : Nat) (a : BitVec 7) (n : Byte) :
    decodeFrame len (1#1 ++ a) n = if burstFits len n then .ok (.wireR a n) else .error .burstTooLong := by
  rw [decodeFrame, frameByte_dir, frameByte_addr, if_neg (by decide)]

theorem decodeFrame_sound {len : Nat} {b0 b1 : Byte} {i : Instr} (h : decodeFrame len b0 b1 = .ok i) :
    i.wf len = true ∧ encode i = .frame b0 b1 := by
  have hsplit := frameByte_split b0
  rcases BitVec.eq_zero_or_eq_one (b0.extractLsb' 7 1) with hdir | hdir <;> rw [hdir] at hsplit <;> rw [← hsplit] at h ⊢
  · rw [decodeFrame_write] at h
    cases h
    exact ⟨rfl, rfl⟩
  · rw [decodeFrame_read] at h
    split_ifs at h with hn
    cases h
    exact ⟨hn, rfl⟩

/-! ## The two directions -/

/-- Settles O2: a frame by its direction bit, a command by its three bytes, INIT and the bursts by the check that
well-formedness repeats. -/
theorem decodeOfEncode : Obligations.DecodeOfEncode := by
  intro len i hwf
  cases i with
  | wireW a d => exact decodeFrame_write len a d
  | wireR a n => exact (decodeFrame_read len a n).trans (if_pos hwf)
  | bwr a d => exact decode_cmdWord len 0x01 a d
  | brd a n => exact (decode_cmdWord len 0x02 a n).trans (if_pos hwf)
  | init m => exact (decode_cmdWord len 0x10 0 (0#6 ++ m)).trans (decodeInit_initByte hwf)
  | meas | rdid | ldcala | ldcalb | wros | wrhum | wrctl | poll | rdraw | cmpt | cmpp | cmph | scale | alt => rfl

/-- Settles O3: by the kind of request; a command word is the encoding of what its three bytes decode to. -/
theorem encodeOfDecode : Obligations.EncodeOfDecode := by
  intro len r i h
  cases r with
  | cmd w => exact cmdWord_bytes w ▸ decodeOp_sound h
  | frame b0 b1 => exact decodeFrame_sound h

/-! ## The refused words (R105, R254) -/

/-- The decoder refuses the bytes. -/
def Refuses (r : Except DecodeError Instr) : Prop := ∃ e, r = .error e

theorem refuses_ite {p : Prop} [Decidable p] {r s : Except DecodeError Instr} :
    Refuses (if p then r else s) ↔ p ∧ Refuses r ∨ ¬p ∧ Refuses s := by
  split <;> simp [*]

@[simp] theorem not_refuses_ok (i : Instr) : ¬Refuses (.ok i) := nofun

@[simp] theorem refuses_error (e : DecodeError) : Refuses (.error e) := ⟨e, rfl⟩

theorem byte_eq_zero_iff (a : Byte) : a = 0 ↔ a.toNat = 0 := by bv_omega

/-- R105 (b). -/
theorem decodePlain_refuses {i : Instr} {a b : Byte} : Refuses (decodePlain i a b) ↔ a.toNat ≠ 0 ∨ b.toNat ≠ 0 := by
  simp only [decodePlain, refuses_ite, not_refuses_ok, refuses_error, byte_eq_zero_iff]
  tauto

theorem initByte_high_iff (b : Byte) : b.extractLsb' 2 6 = 0 ↔ b.toNat / 4 = 0 := by revert b; decide

theorem modeLegal_iff (b : Byte) : modeLegal (b.extractLsb' 0 2) = true ↔ b.toNat % 4 ≠ 2 := by revert b; decide

/-- R105 (b) and (d), of INIT. -/
theorem decodeInit_refuses {a b : Byte} :
    Refuses (decodeInit a b) ↔ (a.toNat ≠ 0 ∨ b.toNat / 4 ≠ 0) ∨ b.toNat % 4 = 2 := by
  simp only [decodeInit, refuses_ite, not_refuses_ok, refuses_error, byte_eq_zero_iff, initByte_high_iff, modeLegal_iff]
  tauto

/-- R105 (a) and (b), of a code that is none of BWR, BRD and INIT. -/
theorem decodeAs_refuses (op a b : Byte) : Refuses (decodeAs (plainInstr op) a b) ↔
    plainInstr op = none ∨ a.toNat ≠ 0 ∨ b.toNat ≠ 0 := by
  cases plainInstr op with
  | none => exact ⟨fun _ => .inl rfl, fun _ => refuses_error _⟩
  | some i => simp only [reduceCtorEq, false_or]; exact decodePlain_refuses

theorem decodeOp_refuses (len : Nat) (op a b : Byte) :
    Refuses (decodeOp len op a b) ↔ IllegalBytes len op.toNat a.toNat b.toNat := by
  by_cases h1 : op = 0x01
  · subst h1
    rw [decodeOp_bwr]
    simp [IllegalBytes]
  by_cases h2 : op = 0x02
  · subst h2
    rw [decodeOp_brd, refuses_ite]
    simp [IllegalBytes, burstFits]
  by_cases h10 : op = 0x10
  · subst h10
    rw [decodeOp_init, decodeInit_refuses]
    simp [IllegalBytes]
  · have n1 : op.toNat ≠ 1 := by bv_omega
    have n2 : op.toNat ≠ 2 := by bv_omega
    have n10 : op.toNat ≠ 16 := by bv_omega
    rw [decodeOp_plain len a b h1 h2 h10, decodeAs_refuses, plainInstr_eq_none_iff]
    simp [IllegalBytes, n1, n2, n10]

/-- A command word is refused exactly when R105 calls it illegal. -/
theorem decode_refuses_iff (len : Nat) (w : BitVec 24) : Refuses (decode len (.cmd w)) ↔ IllegalWord len w := by
  rw [decode, decodeOp_refuses, cmdOp_toNat, cmdA_toNat, cmdB_toNat]

/-- An idle block that accepts a word the decoder refuses raises BAD_CMD (R254). -/
theorem step_of_refused {s : State} {r : Request} {h : List HostInput} (hr : Refuses (decode (rxbufLen s.cfg) r))
    (hb : s.busy = false) (hs : AtRest s) (hh : s.host = .present r :: h) :
    step s = .next { s with host := h, err := s.err ||| 0b00100#5 } := by
  obtain ⟨e, he⟩ := hr
  have hrest : AtRest { s with host := h, busy := true } := hs
  have hacc : step s = .next (raiseErr .badCmd { s with host := h, busy := true }) := by
    simp only [step, hh, hb, accept, he, Bool.false_eq_true, if_false]
  rw [hacc, raiseErr_of_atRest hrest, ← hb]
  rfl

/-- Settles O4: the refused words byte by byte, the accepted ones by O3, and the step of a refused one. -/
theorem illegalWordRaisesBadCmd : Obligations.IllegalWordRaisesBadCmd := by
  refine ⟨decode_refuses_iff, fun len w i h => (encodeOfDecode len _ i h).2, fun s w h hw hb hs hh => ?_⟩
  exact step_of_refused ((decode_refuses_iff _ w).mpr hw) hb hs hh

/-! ## Words written out, and the control value (R96, R97) -/

/-- Settles O1: by evaluation of the decoder on each word. -/
theorem specWordsDecode : Obligations.SpecWordsDecode := by
  unfold Obligations.SpecWordsDecode
  decide

theorem unpackCtrl_packCtrl (t p : BitVec 3) (m : BitVec 2) : unpackCtrl (packCtrl t p m) = (t, p, m) := by
  rw [unpackCtrl, ctrlT_packCtrl, ctrlP_packCtrl, ctrlMode_packCtrl]

theorem packCtrl_unpackCtrl (v : Byte) :
    packCtrl (unpackCtrl v).1 (unpackCtrl v).2.1 (unpackCtrl v).2.2 = v := by revert v; decide

theorem unpackCtrl_toNat (v : Byte) : (unpackCtrl v).1.toNat = v.toNat / 32 ∧
    (unpackCtrl v).2.1.toNat = v.toNat / 4 % 8 ∧ (unpackCtrl v).2.2.toNat = v.toNat % 4 := by revert v; decide

/-- Settles O26: packing and unpacking as numbers, and the two round trips. -/
theorem controlValueRoundTrip : Obligations.ControlValueRoundTrip :=
  ⟨packCtrl_toNat, unpackCtrl_toNat, packCtrl_unpackCtrl, unpackCtrl_packCtrl⟩

end Sys2Proof.Machine
end

section
/-! The frames as instructions, and the register address of BWR and BRD (spec 30_encoding.md R91 to R93, 40_bus_transport.md
R123, R124, R129). -/

namespace Sys2Proof.Machine

theorem writeByte_xor_bit7 (a : Byte) : writeByte (a ^^^ 0x80#8) = writeByte a := by revert a; decide

theorem readByte_xor_bit7 (a : Byte) : readByte (a ^^^ 0x80#8) = readByte a := by revert a; decide

/-- Settles O15: the address byte of a frame does not depend on bit 7 of the address. -/
theorem addressBit7IsIgnored : Obligations.AddressBit7IsIgnored := by
  intro a d n s
  constructor
  · simp only [exec, execBwr, busWrite, writeByte_xor_bit7]
  · simp only [exec, execBrd, busRead, readByte_xor_bit7]

/-- Settles O11: WIRE_W is its write frame, which is one update of the state. -/
theorem wireWSendsTheFrame : Obligations.WireWSendsTheFrame := by
  intro a d s
  refine ⟨finish (sendFrame (0#1 ++ a) d s), rfl, ?_, fun hk => (finish_dev _).trans (sendFrame_dev_of_oracle hk)⟩
  rw [sendFrame_eq]
  rfl

theorem exec_wireR_of_fits (a : BitVec 7) {n : Byte} {s : State} (h : n.toNat ≤ rxbufLen s.cfg) :
    exec (.wireR a n) s = .next (finish (readFrame (1#1 ++ a) n.toNat s).2) :=
  if_pos (decide_eq_true h)

theorem exec_wireR_of_long (a : BitVec 7) {n : Byte} {s : State} (h : rxbufLen s.cfg < n.toNat) :
    exec (.wireR a n) s = .next (raiseErr .badCmd s) :=
  if_neg (decide_eq_true_iff.not.mpr h.not_ge)

/-- Settles O13: a read frame that fits is one update of the state; a longer one is refused by the decoder and by the
instruction. -/
theorem wireRReadsTheBurst : Obligations.WireRReadsTheBurst := by
  intro a n s
  refine ⟨fun hfit => ⟨?_, finish (readFrame (1#1 ++ a) n.toNat s).2, (readFrame (1#1 ++ a) n.toNat s).1,
    exec_wireR_of_fits a hfit, by simp, ?_⟩, fun hlong => ⟨?_, fun hs => ?_⟩⟩
  · exact (decodeFrame_read _ a n).trans (if_pos (decide_eq_true hfit))
  · have hz : n = 0#8 ↔ n.toNat = 0 := byte_eq_zero_iff n
    rw [readFrame_eq]
    simp only [hz]
    rfl
  · exact (decodeFrame_read _ a n).trans (if_neg (decide_eq_true_iff.not.mpr hlong.not_ge))
  · rw [exec_wireR_of_long a hlong, raiseErr_of_atRest hs]
    rfl

end Sys2Proof.Machine
end

section
/-! A micro-operation does the same whether it is issued as a command or run as a step of INIT or MEAS: it neither reads nor
writes UPC and BUSY (spec 30_encoding.md R109, 10_state.md R40, R41). -/

namespace Sys2Proof.Machine

/-! ## UPC and BUSY set apart -/

/-- The state with UPC and BUSY replaced. -/
def State.withControl (u : BitVec 5) (b : Bool) (s : State) : State := { s with upc := u, busy := b }

/-- The outcome with its state changed. -/
def MicroOut.map (f : State → State) : MicroOut → MicroOut
  | .done s => .done (f s)
  | .again s => .again (f s)
  | .raised e s => .raised e (f s)

/-- The micro-operation neither reads nor writes UPC and BUSY. -/
def ControlBlind (op : State → MicroOut) : Prop :=
  ∀ u b s, op (s.withControl u b) = (op s).map (State.withControl u b)

theorem AtRest.withControl {s : State} (h : AtRest s) : s.withControl 0 s.busy = s := by
  rw [← show s.upc = 0 from h.1]
  rfl

/-! ## Frames -/

theorem sendFrame_withControl (w d : Byte) (u : BitVec 5) (b : Bool) (s : State) :
    sendFrame w d (s.withControl u b) = (sendFrame w d s).withControl u b := rfl

theorem oracle_withControl (u : BitVec 5) (b : Bool) (s : State) :
    oracle (s.withControl u b) = ((oracle s).1, (oracle s).2.withControl u b) := by
  unfold oracle State.withControl
  dsimp only
  split
  · rfl
  · split <;> rfl

theorem recvBytes_withControl (n : Nat) (u : BitVec 5) (b : Bool) (s : State) :
    recvBytes n (s.withControl u b) = ((recvBytes n s).1, (recvBytes n s).2.withControl u b) := by
  induction n generalizing s with
  | zero => rfl
  | succ n ih =>
    have hbyte : recvByte (s.withControl u b) = ((recvByte s).1, (recvByte s).2.withControl u b) := by
      simp only [recvByte, oracle_withControl]
      rfl
    simp only [recvBytes, hbyte, ih]

theorem busRead_withControl (a : Byte) (n : Nat) (u : BitVec 5) (b : Bool) (s : State) :
    busRead a n (s.withControl u b) = ((busRead a n s).1, (busRead a n s).2.withControl u b) := by
  have h := recvBytes_withControl n u b (sendByte (readByte a) (select s))
  have hs : sendByte (readByte a) (select (s.withControl u b)) =
      (sendByte (readByte a) (select s)).withControl u b := rfl
  simp only [busRead, readFrame, hs, h]
  rfl

/-! ## The micro-operations -/

theorem MicroOut.map_ite {f : State → State} {p : Prop} [Decidable p] {o o' : MicroOut} :
    (if p then o else o').map f = if p then o.map f else o'.map f := apply_ite (MicroOut.map f) p o o'

theorem MicroOut.map_done (f : State → State) (s : State) : (MicroOut.done s).map f = .done (f s) := rfl

theorem MicroOut.map_raised (f : State → State) (e : ErrCause) (s : State) :
    (MicroOut.raised e s).map f = .raised e (f s) := rfl

/-- A choice by a condition that does not depend on UPC and BUSY. -/
theorem ControlBlind.ite {c : State → Bool} {f g : State → MicroOut} (hc : ∀ u b s, c (s.withControl u b) = c s)
    (hf : ControlBlind f) (hg : ControlBlind g) : ControlBlind fun s => if c s then f s else g s := by
  intro u b s
  simp only [hc, MicroOut.map_ite, hf u b s, hg u b s]

theorem ControlBlind.raised (e : ErrCause) : ControlBlind (.raised e) := fun _ _ _ => rfl

theorem microRdid_blind : ControlBlind microRdid := by
  intro u b s
  simp only [microRdid, busRead_withControl, MicroOut.map_ite, MicroOut.map_raised, MicroOut.map_done]
  rfl

theorem microLdcala_blind : ControlBlind microLdcala := by
  intro u b s
  simp only [microLdcala, busRead_withControl, MicroOut.map_ite, MicroOut.map_raised, MicroOut.map_done]
  rfl

theorem microLdcalb_blind : ControlBlind microLdcalb := by
  intro u b s
  simp only [microLdcalb, busRead_withControl, MicroOut.map_ite, MicroOut.map_raised, MicroOut.map_done]
  rfl

theorem microWros_blind : ControlBlind microWros := fun _ _ _ => rfl

theorem microWrhum_blind : ControlBlind microWrhum := fun _ _ _ => rfl

theorem microWrctl_blind : ControlBlind microWrctl := fun _ _ _ => rfl

theorem microPollOnce_blind : ControlBlind microPollOnce := by
  intro u b s
  simp only [microPollOnce, busRead_withControl, MicroOut.map_ite, MicroOut.map_raised, MicroOut.map_done]
  rfl

theorem microPoll_blind : ControlBlind microPoll :=
  .ite (fun _ _ _ => rfl) (fun u b s => microPollOnce_blind u b { s with pollCnt := 0 }) (.raised _)

theorem microRdraw_blind : ControlBlind microRdraw := by
  intro u b s
  simp only [microRdraw, busRead_withControl, MicroOut.map_ite, MicroOut.map_raised, MicroOut.map_done]
  rfl

theorem microCmpt_blind : ControlBlind microCmpt :=
  .ite (fun _ _ _ => rfl) (.ite (fun _ _ _ => rfl) (.raised _) fun _ _ _ => rfl) (.raised _)

theorem microCmpp_blind : ControlBlind microCmpp :=
  .ite (fun _ _ _ => rfl) (.ite (fun _ _ _ => rfl) (.raised _) fun _ _ _ => rfl) (.raised _)

theorem microCmph_blind : ControlBlind microCmph :=
  .ite (fun _ _ _ => rfl) (.ite (fun _ _ _ => rfl) (.raised _) fun _ _ _ => rfl) (.raised _)

theorem microScale_blind : ControlBlind microScale := .ite (fun _ _ _ => rfl) (fun _ _ _ => rfl) (.raised _)

theorem microAlt_blind : ControlBlind microAlt := .ite (fun _ _ _ => rfl) (fun _ _ _ => rfl) (.raised _)

/-! ## Issued, or as a step -/

/-- A step that hands the end of a micro-operation to `next`. -/
theorem ControlBlind.step {op : State → MicroOut} (hop : ControlBlind op) {s : State} (hn : NoRstNext s) {u : BitVec 5}
    {next : MicroOut → Host.Outcome State Fault Refusal}
    (hrun : runBusy (s.withControl u true) = next (op (s.withControl u true))) :
    step (s.withControl u true) = next ((op s).map (State.withControl u true)) := by
  rw [step_of_busy (s := s.withControl u true) rfl hn, hrun, hop]

/-- `op` is the micro-operation of the command `i`. -/
structure IsMicroOf (op : State → MicroOut) (i : Instr) : Prop where
  issued : ∀ s, exec i s = endCommand (op s)
  blind : ControlBlind op
  effect : ∀ s, MicroEffect s i (op s)

theorem microRdid_isMicroOf : IsMicroOf microRdid .rdid := ⟨fun _ => rfl, microRdid_blind, microRdid_effect⟩
theorem microLdcala_isMicroOf : IsMicroOf microLdcala .ldcala := ⟨fun _ => rfl, microLdcala_blind, microLdcala_effect⟩
theorem microLdcalb_isMicroOf : IsMicroOf microLdcalb .ldcalb := ⟨fun _ => rfl, microLdcalb_blind, microLdcalb_effect⟩
theorem microWros_isMicroOf : IsMicroOf microWros .wros := ⟨fun _ => rfl, microWros_blind, microWros_effect⟩
theorem microWrhum_isMicroOf : IsMicroOf microWrhum .wrhum := ⟨fun _ => rfl, microWrhum_blind, microWrhum_effect⟩
theorem microWrctl_isMicroOf : IsMicroOf microWrctl .wrctl := ⟨fun _ => rfl, microWrctl_blind, microWrctl_effect⟩
theorem microRdraw_isMicroOf : IsMicroOf microRdraw .rdraw := ⟨fun _ => rfl, microRdraw_blind, microRdraw_effect⟩
theorem microCmpt_isMicroOf : IsMicroOf microCmpt .cmpt := ⟨fun _ => rfl, microCmpt_blind, microCmpt_effect⟩
theorem microCmpp_isMicroOf : IsMicroOf microCmpp .cmpp := ⟨fun _ => rfl, microCmpp_blind, microCmpp_effect⟩
theorem microCmph_isMicroOf : IsMicroOf microCmph .cmph := ⟨fun _ => rfl, microCmph_blind, microCmph_effect⟩
theorem microScale_isMicroOf : IsMicroOf microScale .scale := ⟨fun _ => rfl, microScale_blind, microScale_effect⟩
theorem microAlt_isMicroOf : IsMicroOf microAlt .alt := ⟨fun _ => rfl, microAlt_blind, microAlt_effect⟩

/-- The micro-operation `op` of the command `i` completes, from `s` to `t`, and no RST is pending. -/
structure Completes (op : State → MicroOut) (i : Instr) (s t : State) : Prop where
  micro : IsMicroOf op i
  noRst : NoRstNext s
  done : op s = .done t

section
variable {op : State → MicroOut} {i : Instr} {s t : State} (h : Completes op i s t)
include h

theorem Completes.effect : MicroEffect s i (.done t) := h.done ▸ h.micro.effect s

theorem Completes.noRstAfter : NoRstNext t := by
  have hhost : t.host = s.host := h.effect.host
  unfold NoRstNext
  rw [hhost]
  exact h.noRst

theorem Completes.done_withControl (u : BitVec 5) (b : Bool) :
    op (s.withControl u b) = .done (t.withControl u b) := by
  rw [h.micro.blind, h.done, MicroOut.map_done]

/-- Issued by the host, whatever BUSY was. -/
theorem Completes.exec (u : BitVec 5) (b : Bool) : exec i (s.withControl u b) = .next (t.withControl u false) := by
  rw [h.micro.issued, h.done_withControl]
  rfl

/-- As the last step of a micro-program. -/
theorem Completes.step {u : BitVec 5} {next : MicroOut → Host.Outcome State Fault Refusal}
    (hrun : runBusy (s.withControl u true) = next (op (s.withControl u true))) :
    step (s.withControl u true) = next (.done (t.withControl u true)) := by
  rw [h.micro.blind.step h.noRst hrun, h.done, MicroOut.map_done]

/-- As an earlier step of a micro-program, in a run. -/
theorem Completes.run {n : Nat} {u : BitVec 5} {p : BitVec 2} {k : BitVec 3}
    (hrun : runBusy (s.withControl u true) = toStep p k (op (s.withControl u true))) :
    Sys2Proof.core.run (n + 1) (s.withControl u true) = Sys2Proof.core.run n (t.withControl (upcOf p k) true) :=
  run_succ (h.step hrun)

end

end Sys2Proof.Machine
end

section
/-! INIT and its expansion (spec 30_encoding.md R109, 41_init_calibration.md R160). -/

namespace Sys2Proof.Machine

theorem MicroEffect.calaValid_of_ne {s : State} {i : Instr} {o : MicroOut} (h : MicroEffect s i o) (hi : i ≠ .ldcala) :
    o.state.calaValid = s.calaValid := by
  cases h with
  | ldcala hb hv => exact absurd rfl hi
  | _ => rfl

theorem MicroEffect.calbValid_of_ne {s : State} {i : Instr} {o : MicroOut} (h : MicroEffect s i o) (hi : i ≠ .ldcalb) :
    o.state.calbValid = s.calbValid := by
  cases h with
  | ldcalb hb hv => exact absurd rfl hi
  | _ => rfl

/-- RDID completes without ID_STRICT, or of a device that answers the identity (R141). -/
theorem microRdid_done {s : State} (h : s.cfg.idStrict = false ∨ ∃ rest, Answers s [0x60#8] rest) :
    ∃ t, microRdid s = .done t := by
  rcases h with hs | ⟨rest, ha⟩
  · obtain ⟨b, v, k, he⟩ := microRdid_cases s
    exact ⟨_, he.trans (if_neg fun h => Bool.false_ne_true (hs.symm.trans h.1))⟩
  · exact ⟨_, (microRdid_of_answers ha).trans (if_neg fun h => h.2 rfl)⟩

theorem microLdcala_done {s : State} (h : s.calaValid = false) : ∃ t, microLdcala s = .done t := by
  obtain ⟨A, v, k, -, hd⟩ := microLdcala_cases h
  exact ⟨_, hd⟩

theorem microLdcalb_done {s : State} (h : s.calbValid = false) : ∃ t, microLdcalb s = .done t := by
  obtain ⟨B, v, k, -, hd⟩ := microLdcalb_cases h
  exact ⟨_, hd⟩

/-- The commands of the expansion in their turn, and the micro-program: each of the six micro-operations completes, from a
state to the same next one on either way. -/
theorem initSequence {s : State} (hn : NoRstNext s) (ha : s.calaValid = false) (hb : s.calbValid = false)
    (hid : s.cfg.idStrict = false ∨ ∃ rest, Answers s [0x60#8] rest) :
    ∃ a b c d e z, (∀ busy, exec .rdid (s.withControl 0 busy) = .next a) ∧ exec .ldcala a = .next b ∧
      exec .ldcalb b = .next c ∧ exec .wros c = .next d ∧ exec .wrhum d = .next e ∧ exec .wrctl e = .next z ∧
      Sys2Proof.core.run 6 (s.withControl (upcAt progInit 0) true) = .next { z with initDone := true } := by
  obtain ⟨s1, h1⟩ := microRdid_done hid
  have c1 : Completes microRdid .rdid s s1 := ⟨microRdid_isMicroOf, hn, h1⟩
  have ha1 : s1.calaValid = false := (c1.effect.calaValid_of_ne nofun).trans ha
  have hb1 : s1.calbValid = false := (c1.effect.calbValid_of_ne nofun).trans hb
  obtain ⟨s2, h2⟩ := microLdcala_done ha1
  have c2 : Completes microLdcala .ldcala s1 s2 := ⟨microLdcala_isMicroOf, c1.noRstAfter, h2⟩
  have hb2 : s2.calbValid = false := (c2.effect.calbValid_of_ne nofun).trans hb1
  obtain ⟨s3, h3⟩ := microLdcalb_done hb2
  have c3 : Completes microLdcalb .ldcalb s2 s3 := ⟨microLdcalb_isMicroOf, c2.noRstAfter, h3⟩
  obtain ⟨s4, h4⟩ : ∃ t, microWros s3 = .done t := ⟨_, rfl⟩
  have c4 : Completes microWros .wros s3 s4 := ⟨microWros_isMicroOf, c3.noRstAfter, h4⟩
  obtain ⟨s5, h5⟩ : ∃ t, microWrhum s4 = .done t := ⟨_, rfl⟩
  have c5 : Completes microWrhum .wrhum s4 s5 := ⟨microWrhum_isMicroOf, c4.noRstAfter, h5⟩
  obtain ⟨s6, h6⟩ : ∃ t, microWrctl s5 = .done t := ⟨_, rfl⟩
  have c6 : Completes microWrctl .wrctl s5 s6 := ⟨microWrctl_isMicroOf, c5.noRstAfter, h6⟩
  refine ⟨_, _, _, _, _, _, c1.exec 0, c2.exec 0 false, c3.exec 0 false, c4.exec 0 false, c5.exec 0 false,
    c6.exec 0 false, ?_⟩
  calc Sys2Proof.core.run 6 (s.withControl (upcAt progInit 0) true)
    _ = Sys2Proof.core.run 5 (s1.withControl (upcAt progInit 1) true) := c1.run (runBusy_init 0 rfl)
    _ = Sys2Proof.core.run 4 (s2.withControl (upcAt progInit 2) true) := c2.run (runBusy_init 1 rfl)
    _ = Sys2Proof.core.run 3 (s3.withControl (upcAt progInit 3) true) := c3.run (runBusy_init 2 rfl)
    _ = Sys2Proof.core.run 2 (s4.withControl (upcAt progInit 4) true) := c4.run (runBusy_init 3 rfl)
    _ = Sys2Proof.core.run 1 (s5.withControl (upcAt progInit 5) true) := c5.run (runBusy_init 4 rfl)
    _ = .next { s6.withControl 0 false with initDone := true } := run_succ (c6.step (next := endInit) (runBusy_init 5 rfl))

/-- Settles O60: INIT is accepted at I0, with MODE written, and from there the two ways are one sequence. -/
theorem initEqualsItsExpansion : Obligations.InitEqualsItsExpansion := by
  intro m s hm hr hn hd ha hb hid
  obtain ⟨a, b, c, d, e, z, h1, h2, h3, h4, h5, h6, hrun⟩ := initSequence (s := { s with mode := m }) hn ha hb hid
  have hacc : exec (.init m) s = .next (({ s with mode := m } : State).withControl (upcAt progInit 0) true) := by
    have hl : modeLegal m ≠ false := by simpa [modeLegal] using hm
    simp only [exec, execInit, if_neg hl, hd]
    rfl
  have hs : ({ s with mode := m } : State).withControl 0 s.busy = { s with mode := m } :=
    AtRest.withControl (s := { s with mode := m }) hr
  exact ⟨_, a, b, c, d, e, z, hacc, hrun, hs ▸ h1 s.busy, h2, h3, h4, h5, h6⟩

end Sys2Proof.Machine
end

section
/-! MEAS and its expansion, in either mode (spec 30_encoding.md R109, 42_measure.md R172 to R174). -/

namespace Sys2Proof.Machine

/-! ## What a measurement needs -/

/-- An initialized block under wrap-around, no RST pending: what lets every step of MEAS complete. -/
structure CanMeasure (s : State) : Prop where
  noRst : NoRstNext s
  initDone : s.initDone = true
  calaValid : s.calaValid = true
  calbValid : s.calbValid = true
  wrap : s.cfg.overflow = .wrap

/-- No micro-operation changes that. -/
theorem MicroEffect.canMeasure {s : State} {i : Instr} {o : MicroOut} (h : MicroEffect s i o) (hs : CanMeasure s) :
    CanMeasure o.state where
  noRst := by unfold NoRstNext; rw [h.host]; exact hs.noRst
  initDone := h.initDone.trans hs.initDone
  calaValid := (h.calKept.blockA hs.calaValid).1
  calbValid := (h.calKept.blockB hs.calbValid).1
  wrap := h.cfg ▸ hs.wrap

theorem arithFault_of_wrap {cfg : Params} (h : cfg.overflow = .wrap) (o : Bool) : arithFault cfg o = false := by
  rw [arithFault, h]
  rfl

section
variable {s : State} (hs : CanMeasure s)
include hs

theorem CanMeasure.microRdraw_done : ∃ t, microRdraw s = .done t := by
  obtain ⟨D, v, k, -, hd⟩ := microRdraw_cases hs.initDone
  exact ⟨_, hd⟩

theorem CanMeasure.microCmpt_done (hc : s.cyc = 1#3) : ∃ t, microCmpt s = .done t := by
  have hr : readyT s = true := by simp [readyT, hc, hs.calaValid]
  simp only [microCmpt, hr, arithFault_of_wrap hs.wrap, if_true, Bool.false_eq_true, if_false]
  exact ⟨_, rfl⟩

theorem CanMeasure.microCmpp_done (hc : s.cyc = 2#3) : ∃ t, microCmpp s = .done t := by
  have hr : readyP s = true := by simp [readyP, hc, hs.calaValid]
  simp only [microCmpp, hr, arithFault_of_wrap hs.wrap, if_true, Bool.false_eq_true, if_false]
  exact ⟨_, rfl⟩

theorem CanMeasure.microCmph_done (hc : s.cyc = 3#3) : ∃ t, microCmph s = .done t := by
  have hr : readyH s = true := by simp [readyH, calValid, hc, hs.calaValid, hs.calbValid]
  simp only [microCmph, hr, arithFault_of_wrap hs.wrap, if_true, Bool.false_eq_true, if_false]
  exact ⟨_, rfl⟩

end

theorem microScale_done {s : State} (hc : s.cyc = 4#3) : ∃ t, microScale s = .done t :=
  ⟨_, if_pos (beq_iff_eq.mpr hc)⟩

theorem microAlt_done {s : State} (hc : s.cyc = 5#3) : ∃ t, microAlt s = .done t :=
  ⟨_, if_pos (beq_iff_eq.mpr hc)⟩

/-! ## From the raw burst on -/

/-- RDRAW, CMPT, CMPP, CMPH, SCALE, ALT in their turn, and M2 to M7: each of the six micro-operations completes, from a state
to the same next one on either way. -/
theorem measSequence {s : State} (hs : CanMeasure s) :
    ∃ a b c d e z, (∀ busy, exec .rdraw (s.withControl 0 busy) = .next a) ∧ exec .cmpt a = .next b ∧
      exec .cmpp b = .next c ∧ exec .cmph c = .next d ∧ exec .scale d = .next e ∧ exec .alt e = .next z ∧
      Sys2Proof.core.run 6 (s.withControl (upcAt progMeas 2) true) = .next z := by
  obtain ⟨s1, h1⟩ := hs.microRdraw_done
  have c1 : Completes microRdraw .rdraw s s1 := ⟨microRdraw_isMicroOf, hs.noRst, h1⟩
  have hs1 : CanMeasure s1 := c1.effect.canMeasure hs
  obtain ⟨s2, h2⟩ := hs1.microCmpt_done (c1.effect.cyc_of_done rfl)
  have c2 : Completes microCmpt .cmpt s1 s2 := ⟨microCmpt_isMicroOf, hs1.noRst, h2⟩
  have hs2 : CanMeasure s2 := c2.effect.canMeasure hs1
  obtain ⟨s3, h3⟩ := hs2.microCmpp_done (c2.effect.cyc_of_done rfl)
  have c3 : Completes microCmpp .cmpp s2 s3 := ⟨microCmpp_isMicroOf, hs2.noRst, h3⟩
  have hs3 : CanMeasure s3 := c3.effect.canMeasure hs2
  obtain ⟨s4, h4⟩ := hs3.microCmph_done (c3.effect.cyc_of_done rfl)
  have c4 : Completes microCmph .cmph s3 s4 := ⟨microCmph_isMicroOf, hs3.noRst, h4⟩
  obtain ⟨s5, h5⟩ := microScale_done (c4.effect.cyc_of_done rfl)
  have c5 : Completes microScale .scale s4 s5 := ⟨microScale_isMicroOf, c4.noRstAfter, h5⟩
  obtain ⟨s6, h6⟩ := microAlt_done (c5.effect.cyc_of_done rfl)
  have c6 : Completes microAlt .alt s5 s6 := ⟨microAlt_isMicroOf, c5.noRstAfter, h6⟩
  refine ⟨_, _, _, _, _, _, c1.exec 0, c2.exec 0 false, c3.exec 0 false, c4.exec 0 false, c5.exec 0 false,
    c6.exec 0 false, ?_⟩
  calc Sys2Proof.core.run 6 (s.withControl (upcAt progMeas 2) true)
    _ = Sys2Proof.core.run 5 (s1.withControl (upcAt progMeas 3) true) := c1.run (runBusy_meas 2 rfl)
    _ = Sys2Proof.core.run 4 (s2.withControl (upcAt progMeas 4) true) := c2.run (runBusy_meas 3 rfl)
    _ = Sys2Proof.core.run 3 (s3.withControl (upcAt progMeas 5) true) := c3.run (runBusy_meas 4 rfl)
    _ = Sys2Proof.core.run 2 (s4.withControl (upcAt progMeas 6) true) := c4.run (runBusy_meas 5 rfl)
    _ = Sys2Proof.core.run 1 (s5.withControl (upcAt progMeas 7) true) := c5.run (runBusy_meas 6 rfl)
    _ = .next (s6.withControl 0 false) := run_succ (c6.step (next := endMeas) (runBusy_meas 7 rfl))

/-! ## Acceptance and M0 -/

theorem exec_meas_of_done {s : State} (hs : s.initDone = true) :
    exec .meas s = .next (s.withControl (upcAt progMeas 0) true) := if_pos hs

/-- M0 outside Forced mode (R173). -/
theorem step_measSkip {s : State} (hn : NoRstNext s) (hm : s.mode ≠ s.cfg.modeForced) :
    step (s.withControl (upcAt progMeas 0) true) = .next (s.withControl (upcAt progMeas 2) true) := by
  rw [step_of_busy (s := s.withControl (upcAt progMeas 0) true) rfl hn, runBusy_meas 0 rfl]
  exact if_neg hm

/-- M0 in Forced mode (R173). -/
theorem runBusy_measRearm {s : State} (hu : s.upc = upcAt progMeas 0) (hm : s.mode = s.cfg.modeForced) :
    runBusy s = toStep progMeas 1#3 (microWrctl s) :=
  (runBusy_meas 0 hu).trans (if_pos hm)

/-! ## The poll loop, as a command and as M1 -/

/-- POLL from its start or, inside its loop, its next iteration. -/
def pollNext (s : State) : MicroOut := if s.polling then microPollOnce s else microPoll s

theorem pollNext_blind : ControlBlind pollNext := .ite (fun _ _ _ => rfl) microPollOnce_blind microPoll_blind

theorem pollNext_effect (s : State) : MicroEffect s .poll (pollNext s) := measPoll_effect s

theorem exec_poll_of_notPolling {s : State} (hp : s.polling = false) : exec .poll s = endCommand (pollNext s) := by
  rw [pollNext, hp]
  rfl

/-- A host-issued POLL inside its loop goes on. -/
theorem runBusy_pollNext {s : State} (hu : s.upc = 0#5) (hp : s.polling = true) :
    runBusy s = endCommand (pollNext s) := by
  rw [runBusy, hu, if_neg (by decide), if_neg (by decide), if_pos ⟨by decide, hp⟩, pollNext, if_pos hp]

/-- An iteration is what `pollOutcome` says of the byte read, POLL_CNT being set to 0 at the start. -/
theorem pollNext_of_answers {s : State} {b : Byte} {rest : List Byte} (hd : s.initDone = true) (ha : Answers s [b] rest) :
    ∃ c, pollNext s = pollOutcome b { s.dev with answers := rest } s.draws { s with pollCnt := c } := by
  unfold pollNext
  split
  · exact ⟨s.pollCnt, microPollOnce_of_answers ha⟩
  · exact ⟨0, (microPoll_of_done hd).trans (microPollOnce_of_answers (s := { s with pollCnt := 0 }) ha)⟩

/-- Without a limit a busy status goes back to the loop (R174). -/
theorem pollOutcome_of_busy {s : State} (hl : s.cfg.pollLimit = none) {b : Byte} (hb : b.getLsbD 3 = true) (v : Device)
    (k : Nat) : ∃ t, pollOutcome b v k s = .again t ∧ t.polling = true ∧ t.dev = v := by
  rw [pollOutcome, if_pos hb, if_neg]
  · exact ⟨_, rfl, rfl, rfl⟩
  · exact fun h => pollLimit_of_exhausted h hl

theorem pollNext_of_busy {s : State} {b : Byte} {bs rest : List Byte} (hd : s.initDone = true)
    (hl : s.cfg.pollLimit = none) (ha : Answers s (b :: bs) rest) (hb : b.getLsbD 3 = true) :
    ∃ t, pollNext s = .again t ∧ t.polling = true ∧ Answers t bs rest := by
  obtain ⟨c, he⟩ := pollNext_of_answers (b := b) (rest := bs ++ rest) hd ha
  obtain ⟨t, ht, hp, hv⟩ := pollOutcome_of_busy (s := { s with pollCnt := c }) hl hb
    { s.dev with answers := bs ++ rest } s.draws
  exact ⟨t, he.trans ht, hp, by rw [hv]; exact ha.1, by rw [hv]⟩

theorem pollNext_of_clear {s : State} {b : Byte} {rest : List Byte} (hd : s.initDone = true) (ha : Answers s [b] rest)
    (hb : b.getLsbD 3 = false) : ∃ t, pollNext s = .done t := by
  obtain ⟨c, he⟩ := pollNext_of_answers hd ha
  rw [pollOutcome, if_neg (hb ▸ Bool.false_ne_true)] at he
  exact ⟨_, he⟩

/-- M1 is an iteration of the loop (R174). -/
theorem step_measPoll {s : State} (hn : NoRstNext s) : step (s.withControl (upcAt progMeas 1) true) =
    toStep progMeas 2#3 ((pollNext s).map (State.withControl (upcAt progMeas 1) true)) :=
  pollNext_blind.step hn (runBusy_meas 1 rfl)

/-- The loop of a POLL that reads busy status bytes and then a clear one: as a command with the steps that follow it, and at
M1 of MEAS, where it hands over to M2, it leaves the same state. -/
theorem pollSequence {bs : List Byte} {b : Byte} {D rest : List Byte} (hbs : ∀ x ∈ bs, x.getLsbD 3 = true)
    (hb : b.getLsbD 3 = false) {s : State} (hs : CanMeasure s) (hl : s.cfg.pollLimit = none)
    (ha : Answers s (bs ++ b :: D) rest) :
    ∃ p q, (∀ busy, endCommand (pollNext (s.withControl 0 busy)) = .next p) ∧
      Sys2Proof.core.run bs.length p = .next (q.withControl 0 false) ∧ CanMeasure q ∧
      ∀ n, Sys2Proof.core.run (n + (bs.length + 1)) (s.withControl (upcAt progMeas 1) true) =
        Sys2Proof.core.run n (q.withControl (upcAt progMeas 2) true) := by
  induction bs generalizing s with
  | nil =>
    obtain ⟨q, hq⟩ := pollNext_of_clear hs.initDone (b := b) (rest := D ++ rest) ha hb
    have he : MicroEffect s .poll (.done q) := hq ▸ pollNext_effect s
    have hstep := step_measPoll hs.noRst
    rw [hq] at hstep
    refine ⟨q.withControl 0 false, q, fun busy => ?_, rfl, he.canMeasure hs, fun n => run_succ hstep⟩
    rw [pollNext_blind, hq]
    rfl
  | cons x bs ih =>
    obtain ⟨t, ht, hp, hat⟩ := pollNext_of_busy hs.initDone hl ha (hbs x List.mem_cons_self)
    have he : MicroEffect s .poll (.again t) := ht ▸ pollNext_effect s
    have hst : CanMeasure t := he.canMeasure hs
    obtain ⟨p, q, hissued, hrun, hq, hmeas⟩ :=
      ih (fun y hy => hbs y (List.mem_cons_of_mem x hy)) hst (he.cfg ▸ hl) hat
    have hloop : step (t.withControl 0 true) = .next p := by
      rw [step_of_busy (s := t.withControl 0 true) rfl hst.noRst,
        runBusy_pollNext (s := t.withControl 0 true) rfl hp, hissued]
    have hstep := step_measPoll hs.noRst
    rw [ht] at hstep
    refine ⟨t.withControl 0 true, q, fun busy => ?_, (run_succ hloop).trans hrun, hq, fun n => ?_⟩
    · rw [pollNext_blind, ht]
      rfl
    · exact (run_succ hstep).trans (hmeas n)

/-! ## The two modes -/

theorem measExpansion_outsideForced {s : State} (hr : AtRest s) (hs : CanMeasure s) (hm : s.mode ≠ s.cfg.modeForced) :
    ∃ m a b c d e z, exec .meas s = .next m ∧ Sys2Proof.core.run 7 m = .next z ∧ exec .rdraw s = .next a ∧
      exec .cmpt a = .next b ∧ exec .cmpp b = .next c ∧ exec .cmph c = .next d ∧ exec .scale d = .next e ∧
      exec .alt e = .next z := by
  obtain ⟨a, b, c, d, e, z, h1, h2, h3, h4, h5, h6, hrun⟩ := measSequence hs
  exact ⟨_, a, b, c, d, e, z, exec_meas_of_done hs.initDone, (run_succ (step_measSkip hs.noRst hm)).trans hrun,
    hr.withControl ▸ h1 s.busy, h2, h3, h4, h5, h6⟩

theorem measExpansion_inForced {s : State} {bs : List Byte} {b : Byte} {D rest : List Byte} (hr : AtRest s)
    (hs : CanMeasure s) (hm : s.mode = s.cfg.modeForced) (hl : s.cfg.pollLimit = none)
    (hbs : ∀ x ∈ bs, x.getLsbD 3 = true) (hb : b.getLsbD 3 = false) (ha : Answers s (bs ++ b :: D) rest) :
    ∃ m w p q a x c d e z, exec .meas s = .next m ∧ Sys2Proof.core.run (8 + bs.length) m = .next z ∧
      exec .wrctl s = .next w ∧ exec .poll w = .next p ∧ Sys2Proof.core.run bs.length p = .next q ∧
      exec .rdraw q = .next a ∧ exec .cmpt a = .next x ∧ exec .cmpp x = .next c ∧ exec .cmph c = .next d ∧
      exec .scale d = .next e ∧ exec .alt e = .next z := by
  obtain ⟨w, hw⟩ : ∃ t, microWrctl s = .done t := ⟨_, rfl⟩
  have cw : Completes microWrctl .wrctl s w := ⟨microWrctl_isMicroOf, hs.noRst, hw⟩
  have hsw : CanMeasure w := cw.effect.canMeasure hs
  have hpw : w.polling = false := cw.effect.polling_of_done.elim id fun h => h.2.trans hr.2
  have hlw : w.cfg.pollLimit = none := cw.effect.cfg ▸ hl
  have haw : Answers w (bs ++ b :: D) rest := by
    have hdev : w.dev = s.dev := by cases hw; exact sendFrame_dev_of_oracle ha.1
    exact ⟨hdev ▸ ha.1, hdev ▸ ha.2⟩
  obtain ⟨p, q, hpoll, hloop, hsq, hM1⟩ := pollSequence hbs hb hsw hlw haw
  obtain ⟨a, x, c, d, e, z, h1, h2, h3, h4, h5, h6, hM2⟩ := measSequence hsq
  have hrun : Sys2Proof.core.run (8 + bs.length) (s.withControl (upcAt progMeas 0) true) = .next z :=
    calc Sys2Proof.core.run (8 + bs.length) (s.withControl (upcAt progMeas 0) true)
      _ = Sys2Proof.core.run (6 + (bs.length + 1) + 1) (s.withControl (upcAt progMeas 0) true) := by
          rw [show 8 + bs.length = 6 + (bs.length + 1) + 1 by omega]
      _ = Sys2Proof.core.run (6 + (bs.length + 1)) (w.withControl (upcAt progMeas 1) true) :=
          cw.run (runBusy_measRearm rfl hm)
      _ = Sys2Proof.core.run 6 (q.withControl (upcAt progMeas 2) true) := hM1 6
      _ = .next z := hM2
  exact ⟨_, _, p, _, a, x, c, d, e, z, exec_meas_of_done hs.initDone, hrun, hr.withControl ▸ cw.exec 0 s.busy,
    (exec_poll_of_notPolling (s := w.withControl 0 false) hpw).trans (hpoll false), hloop, h1 false, h2, h3, h4, h5, h6⟩

/-- Settles O59: in either mode the two ways go through the same micro-operations, which are blind to UPC and BUSY. -/
theorem measEqualsItsExpansion : Obligations.MeasEqualsItsExpansion := by
  refine ⟨fun s hr hn hd hm hw ha hb => ?_, fun s bs b D rest hr hn hd hm hl hw ha hb hbs hclear hD hans => ?_⟩
  · exact measExpansion_outsideForced hr ⟨hn, hd, ha, hb, hw⟩ hm
  · exact measExpansion_inForced hr ⟨hn, hd, ha, hb, hw⟩ hm hl hbs hclear hans

end Sys2Proof.Machine
end

section
/-! Every step keeps the bus between complete frames: RST empties HIST, and every other step adds complete frames to it (spec
40_bus_transport.md R130, 70_reset_and_hazards.md R286 d, e). -/

namespace Sys2Proof.Machine

/-- A frame leaves CSN at 1, and no other effect touches it (R122). -/
theorem MicroEffect.csn {s : State} {i : Instr} {o : MicroOut} (h : MicroEffect s i o) (hs : s.csn = true) :
    o.state.csn = true := by
  cases h with
  | refused | cmpt | cmpp | cmph | scale | alt => exact hs
  | _ => rfl

theorem MicroEffect.sck {s : State} {i : Instr} {o : MicroOut} (h : MicroEffect s i o) : o.state.sck = s.sck := by
  cases h <;> rfl

theorem MicroEffect.busOk {s : State} {i : Instr} {o : MicroOut} (h : MicroEffect s i o) (hs : BusOk s) :
    BusOk o.state where
  deselected := h.csn hs.deselected
  clockIdle := by rw [h.sck, h.cfg, hs.clockIdle]
  frames := by
    obtain ⟨es, hes, hhist : o.state.hist = s.hist ++ es⟩ := h.busMove.frames
    rw [h.cfg, hhist]
    exact framesComplete_append hs.frames hes

theorem Moves.busOk {s t : State} (h : Moves s t) (hs : BusOk s) : BusOk t := by
  induction h with
  | control => exact ⟨hs.deselected, hs.clockIdle, hs.frames⟩
  | micro he => exact he.busOk hs
  | raise => exact ⟨hs.deselected, hs.clockIdle, hs.frames⟩
  | trans h h' ih ih' => exact ih' (ih hs)

/-- After RST HIST is empty. -/
theorem busOk_applyRst (h : List HostInput) (s : State) : BusOk (applyRst h s) := ⟨rfl, rfl, rfl⟩

/-- Settles O47: RST empties HIST, and every move adds complete frames to it. -/
theorem everyStepKeepsTheBus : Obligations.EveryStepKeepsTheBus := by
  intro s t hs h
  rcases step_rst_or_moves h with ⟨r, -, rfl⟩ | hm
  · exact busOk_applyRst r s
  · exact hm.busOk hs

end Sys2Proof.Machine
end

section
/-! BWR and BRD as one update of the state (spec 40_bus_transport.md R123, R124, R129, 30_encoding.md R102, R103, R105). -/

namespace Sys2Proof.Machine

/-- Settles O10: BWR is a write frame, which is one update of the state. -/
theorem bwrSendsTheWriteFrame : Obligations.BwrSendsTheWriteFrame := by
  intro a d
  refine ⟨fun len => decode_cmdWord len 0x01 a d, fun s => ?_⟩
  obtain ⟨v, hframe, hdev⟩ := busWrite_cases a d s
  have hexec : exec (.bwr a d) s = .next (finish (busWrite a d s)) := rfl
  rw [hframe] at hexec
  exact ⟨_, hexec, rfl, hdev⟩

theorem decode_brd (len : Nat) (a n : Byte) :
    decode len (.cmd (0x02#8 ++ a ++ n)) = if burstFits len n then .ok (.brd a n) else .error .burstTooLong :=
  (decode_cmdWord len 0x02 a n).trans (decodeOp_brd len a n)

theorem exec_brd_of_long (a : Byte) {n : Byte} {s : State} (h : rxbufLen s.cfg < n.toNat) :
    exec (.brd a n) s = .next (raiseErr .badCmd s) :=
  if_neg (decide_eq_true_iff.not.mpr h.not_ge)

/-- Settles O12: a BRD that fits is a read frame, which is one update of the state; a longer one is refused by the decoder and
by the instruction. -/
theorem brdReadsTheBurst : Obligations.BrdReadsTheBurst := by
  intro a n s
  constructor
  · intro hfit
    refine ⟨(decode_brd _ a n).trans (if_pos (decide_eq_true hfit)), finish (readFrame (readByte a) n.toNat s).2,
      (readFrame (readByte a) n.toNat s).1, exec_brd_of_fits a hfit, readFrame_length .., ?_⟩
    have hzero : n = 0#8 ↔ n.toNat = 0 := byte_eq_zero_iff n
    rw [readFrame_eq]
    simp only [hzero]
    rfl
  · intro hlong
    refine ⟨(decode_brd _ a n).trans (if_neg (decide_eq_true_iff.not.mpr hlong.not_ge)), fun hrest => ?_⟩
    rw [exec_brd_of_long a hlong, raiseErr_of_atRest hrest]
    rfl

end Sys2Proof.Machine
end

section
/-! The commands of initialization as one update of the state each (spec 41_init_calibration.md R141 to R157,
60_exceptions.md R252, R261). -/

namespace Sys2Proof.Machine

/-! ## RDID -/

/-- Settles O21: RDID completes, or, on a mismatch under ID_STRICT, raises with the byte already stored. -/
theorem rdidStoresTheIdentity : Obligations.RdidStoresTheIdentity := by
  refine ⟨fun len => decodeOfEncode len .rdid rfl, fun s hr => ?_⟩
  obtain ⟨b, v, k, hmicro⟩ := microRdid_cases s
  have hexec := microRdid_isMicroOf.issued s
  rw [hmicro] at hexec
  by_cases hmis : s.cfg.idStrict = true ∧ b ≠ 0x60#8
  · have hr' : AtRest (rdidState b v k s) := hr
    rw [if_pos hmis, endCommand, raiseErr_of_atRest hr'] at hexec
    exact ⟨_, b, hexec, by rw [if_pos hmis]; rfl⟩
  · rw [if_neg hmis] at hexec
    exact ⟨_, b, hexec, by rw [if_neg hmis]; rfl⟩

/-- RDID completes without ID_STRICT, or of a device that answers the identity, with what it leaves (R141). -/
theorem microRdid_identified {s : State} (h : s.cfg.idStrict = false ∨ ∃ rest, Answers s [0x60#8] rest) :
    ∃ b v k, microRdid s = .done (rdidState b v k s) := by
  rcases h with hs | ⟨rest, ha⟩
  · obtain ⟨b, v, k, hmicro⟩ := microRdid_cases s
    exact ⟨b, v, k, hmicro.trans (if_neg fun hmis => Bool.false_ne_true (hs.symm.trans hmis.1))⟩
  · exact ⟨_, _, _, (microRdid_of_answers ha).trans (if_neg fun hmis => hmis.2 rfl)⟩

/-! ## LDCALA and LDCALB -/

/-- Settles O22: the burst of 26 bytes, unpacked by `calAfterA`. -/
theorem ldcalaLoadsBlockA : Obligations.LdcalaLoadsBlockA := by
  intro s hs
  obtain ⟨A, v, k, hlen, hmicro⟩ := microLdcala_cases hs
  have hexec := microLdcala_isMicroOf.issued s
  rw [hmicro] at hexec
  exact ⟨_, A, hexec, hlen, rfl⟩

/-- Settles O23: the burst of 8 bytes, unpacked by `calAfterB`; the packed pair as numbers. -/
theorem ldcalbLoadsBlockB : Obligations.LdcalbLoadsBlockB := by
  intro s hs
  obtain ⟨B, v, k, hlen, hmicro⟩ := microLdcalb_cases hs
  have hexec := microLdcalb_isMicroOf.issued s
  rw [hmicro] at hexec
  exact ⟨_, B, hexec, hlen, rfl, rfl, rfl, rfl, rfl, rfl, unpackH4_toNat .., unpackH5_toNat .., rfl⟩

theorem microLdcala_of_loaded {s : State} (h : s.calaValid = true) : microLdcala s = .raised .badSeq s := if_pos h

theorem microLdcalb_of_loaded {s : State} (h : s.calbValid = true) : microLdcalb s = .raised .badSeq s := if_pos h

/-- A command whose micro-operation is refused with BAD_SEQ leaves all but ERR[3] (R256). -/
theorem IsMicroOf.exec_badSeq {op : State → MicroOut} {i : Instr} {s : State} (hop : IsMicroOf op i) (hr : AtRest s)
    (h : op s = .raised .badSeq s) : exec i s = .next { s with err := s.err ||| 0b01000#5, busy := false } := by
  rw [hop.issued, h, endCommand, raiseErr_of_atRest hr]
  rfl

/-- Settles O24: a loaded block's load is refused at once, and no move unloads a block. -/
theorem secondLoadIsRefused : Obligations.SecondLoadIsRefused := by
  refine ⟨fun s hr => ⟨fun ha => ?_, fun hb => ?_⟩, fun s t hn h => ?_⟩
  · exact microLdcala_isMicroOf.exec_badSeq hr (microLdcala_of_loaded ha)
  · exact microLdcalb_isMicroOf.exec_badSeq hr (microLdcalb_of_loaded hb)
  · have hkept := (step_moves hn h).calKept
    exact ⟨fun ha => (hkept.blockA ha).1, fun hb => (hkept.blockB hb).1⟩

/-! ## WROS, WRHUM and WRCTL -/

/-- Settles O25: each of the three is the BWR of its value, of which `bwrSendsTheWriteFrame` speaks. -/
theorem configurationWrites : Obligations.ConfigurationWrites := by
  refine ⟨fun len => ⟨decodeOfEncode len .wros rfl, decodeOfEncode len .wrhum rfl, decodeOfEncode len .wrctl rfl⟩,
    fun s => ⟨?_, ?_, ?_⟩⟩
  · obtain ⟨t, hexec, hframe⟩ :=
      (bwrSendsTheWriteFrame s.cfg.addrCtrlMeas (packCtrl s.cfg.osrsT s.cfg.osrsP s.cfg.modeSleep)).2 s
    exact ⟨t, _, hexec, packCtrl_toNat .., hframe⟩
  · obtain ⟨t, hexec, hframe⟩ := (bwrSendsTheWriteFrame s.cfg.addrCtrlHum (packHum s.cfg.osrsH)).2 s
    exact ⟨t, _, hexec, packHum_toNat _, hframe⟩
  · obtain ⟨t, hexec, hframe⟩ :=
      (bwrSendsTheWriteFrame s.cfg.addrCtrlMeas (packCtrl s.cfg.osrsT s.cfg.osrsP s.mode)).2 s
    exact ⟨t, _, hexec, packCtrl_toNat .., hframe⟩

end Sys2Proof.Machine
end

section
/-! INIT from its acceptance to its end or its abort (spec 41_init_calibration.md R160 to R162, 60_exceptions.md R252, R256,
R261). -/

namespace Sys2Proof.Machine

/-! ## Acceptance -/

theorem modeLegal_eq_false_iff (m : BitVec 2) : modeLegal m = false ↔ m = 0b10#2 := by simp [modeLegal]

/-- Settles O27: the two refusals in R261's order, then the entry into I0. -/
theorem initIsAcceptedOrRefused : Obligations.InitIsAcceptedOrRefused := by
  intro m s hr
  have hexec : exec (.init m) s = execInit m s := rfl
  simp only [hexec, execInit, modeLegal_eq_false_iff, raiseErr_of_atRest hr]
  rfl

/-- A legal INIT that is the first enters I0 with MODE written (R160, R161). -/
theorem exec_init_accepted {m : BitVec 2} {s : State} (hm : m ≠ 0b10#2) (hr : AtRest s) (hd : s.initDone = false) :
    exec (.init m) s = .next (({ s with mode := m } : State).withControl (upcAt progInit 0) true) := by
  rw [initIsAcceptedOrRefused m s hr, if_neg hm, if_neg (by simp [hd])]
  rfl

/-! ## Its end -/

/-- The block once LDCALA has read the bytes `A`: `v` and `k` are what the device and the count of free values have become
(R143). -/
def blockAState (A : List Byte) (v : Device) (k : Nat) (s : State) : State :=
  { s with
    cal := calAfterA s.cfg.h1Src A s.cal, calaValid := true, csn := true, sdo := s.cfg.rdFill,
    rxbuf := A ++ s.rxbuf.drop 26, rxHigh := max s.rxHigh 26,
    hist := s.hist ++ readEvents (s.cfg.addrCalA ||| 0x80#8) A, dev := v, draws := k }

/-- The block once LDCALB has read the bytes `B`: `v` and `k` are what the device and the count of free values have become
(R146). -/
def blockBState (B : List Byte) (v : Device) (k : Nat) (s : State) : State :=
  { s with
    cal := calAfterB s.cfg.h1Src B s.cal, calbValid := true, csn := true, sdo := s.cfg.rdFill,
    rxbuf := B ++ s.rxbuf.drop 8, rxHigh := max s.rxHigh 8,
    hist := s.hist ++ readEvents (s.cfg.addrCalB ||| 0x80#8) B, dev := v, draws := k }

/-- The block once `d` is written to the register address `a`, `v` being what the device has become (R123). -/
def writtenState (a d : Byte) (v : Device) (s : State) : State :=
  { s with csn := true, sdo := d, hist := s.hist ++ writeEvents (a &&& 0x7F#8) d, dev := v, busy := false }

theorem microLdcala_loads {s : State} (h : s.calaValid = false) :
    ∃ A v k, A.length = 26 ∧ microLdcala s = .done (blockAState A v k s) := microLdcala_cases h

theorem microLdcalb_loads {s : State} (h : s.calbValid = false) :
    ∃ B v k, B.length = 8 ∧ microLdcalb s = .done (blockBState B v k s) := microLdcalb_cases h

/-- The state in which a command ends whose micro-operation completes. -/
theorem IsMicroOf.result {op : State → MicroOut} {i : Instr} {s t u : State} (hop : IsMicroOf op i)
    (h : exec i s = .next u) (hdone : op s = .done t) : u = finish t := by
  rw [hop.issued, hdone] at h
  exact (Host.Outcome.next.inj h).symm

theorem rdid_result {s t : State} (h : exec .rdid s = .next t)
    (hid : s.cfg.idStrict = false ∨ ∃ rest, Answers s [0x60#8] rest) :
    ∃ id v k, t = finish (rdidState id v k s) := by
  obtain ⟨id, v, k, hdone⟩ := microRdid_identified hid
  exact ⟨id, v, k, microRdid_isMicroOf.result h hdone⟩

theorem ldcala_result {s t : State} (h : exec .ldcala s = .next t) (hs : s.calaValid = false) :
    ∃ A v k, A.length = 26 ∧ t = finish (blockAState A v k s) := by
  obtain ⟨A, v, k, hlen, hdone⟩ := microLdcala_loads hs
  exact ⟨A, v, k, hlen, microLdcala_isMicroOf.result h hdone⟩

theorem ldcalb_result {s t : State} (h : exec .ldcalb s = .next t) (hs : s.calbValid = false) :
    ∃ B v k, B.length = 8 ∧ t = finish (blockBState B v k s) := by
  obtain ⟨B, v, k, hlen, hdone⟩ := microLdcalb_loads hs
  exact ⟨B, v, k, hlen, microLdcalb_isMicroOf.result h hdone⟩

theorem bwr_result {a d : Byte} {s t : State} (h : exec (.bwr a d) s = .next t) : ∃ v, t = writtenState a d v s := by
  obtain ⟨u, hexec, hu, -⟩ := (bwrSendsTheWriteFrame a d).2 s
  exact ⟨u.dev, (Host.Outcome.next.inj (h.symm.trans hexec)).trans hu⟩

theorem wros_result {s t : State} (h : exec .wros s = .next t) :
    ∃ v, t = writtenState s.cfg.addrCtrlMeas (packCtrl s.cfg.osrsT s.cfg.osrsP s.cfg.modeSleep) v s := bwr_result h

theorem wrhum_result {s t : State} (h : exec .wrhum s = .next t) :
    ∃ v, t = writtenState s.cfg.addrCtrlHum (packHum s.cfg.osrsH) v s := bwr_result h

theorem wrctl_result {s t : State} (h : exec .wrctl s = .next t) :
    ∃ v, t = writtenState s.cfg.addrCtrlMeas (packCtrl s.cfg.osrsT s.cfg.osrsP s.mode) v s := bwr_result h

/-- A burst of one byte leaves nothing of itself under a burst of 26 (R26). -/
theorem drop_after_byte (b : Byte) (r : List Byte) : (b :: r.drop 1).drop 26 = r.drop 26 := by
  rw [List.drop_succ_cons, List.drop_drop]

/-- RXBUF after the bursts of RDID, LDCALA and LDCALB: block B over block A (R26). -/
theorem rxbuf_after_blocks {A : List Byte} (B : List Byte) (id : Byte) (r : List Byte) (hA : A.length = 26) :
    B ++ (A ++ (id :: r.drop 1).drop 26).drop 8 = B ++ A.drop 8 ++ r.drop 26 := by
  rw [drop_after_byte, List.drop_append_of_le_length (by omega), List.append_assoc]

theorem rxHigh_after_blockA (n : Nat) : max (max n 1) 26 = max n 26 := by omega

theorem rxHigh_after_blocks (n : Nat) : max (max (max n 1) 26) 8 = max n 26 := by omega

/-- Settles O28: INIT ends where its expansion ends, and each command of the expansion is one update of the state. -/
theorem initCompletes : Obligations.InitCompletes := by
  intro m s hm hr hn hd ha hb hid
  obtain ⟨t, a, b, c, d, e, z, hacc, hrun, h1, h2, h3, h4, h5, h6⟩ :=
    initEqualsItsExpansion m s hm hr hn hd ha hb hid
  obtain ⟨id, v1, k1, rfl⟩ := rdid_result h1 hid
  obtain ⟨A, v2, k2, hA, rfl⟩ := ldcala_result h2 ha
  obtain ⟨B, v3, k3, hB, rfl⟩ := ldcalb_result h3 hb
  obtain ⟨v4, rfl⟩ := wros_result h4
  obtain ⟨v5, rfl⟩ := wrhum_result h5
  obtain ⟨v6, rfl⟩ := wrctl_result h6
  refine ⟨t, _, id, A, B, _, _, _, hacc, hrun, hA, hB, packCtrl_toNat .., packHum_toNat _, packCtrl_toNat .., ?_⟩
  rw [← rxbuf_after_blocks B id s.rxbuf hA, ← rxHigh_after_blocks, ← show s.upc = 0#5 from hr.1]
  dsimp only [finish, rdidState, blockAState, blockBState, writtenState]

/-! ## Its aborts -/

/-- A step of a micro-program whose micro-operation raises `e` ends the micro-program (R256). -/
theorem ControlBlind.step_raised {op : State → MicroOut} (hop : ControlBlind op) {s t : State} (hn : NoRstNext s)
    {e : ErrCause} (h : op s = .raised e t) {u : BitVec 5} (hu : upcProg u ≠ 0#2) (hp : t.polling = false)
    {p : BitVec 2} {k : BitVec 3}
    (hrun : runBusy (s.withControl u true) = toStep p k (op (s.withControl u true))) :
    Machine.step (s.withControl u true) = .next { t with err := errSet t.err e, upc := 0#5, busy := false } := by
  rw [hop.step hn hrun, h, MicroOut.map_raised, toStep, raiseErr_of_running (s := t.withControl u true) hu, ← hp]
  rfl

/-- The step I0 of an INIT that RDID's check lets go on. -/
theorem microRdid_completes {s : State} (hn : NoRstNext s)
    (hid : s.cfg.idStrict = false ∨ ∃ rest, Answers s [0x60#8] rest) :
    ∃ id v k, Completes microRdid .rdid s (rdidState id v k s) := by
  obtain ⟨id, v, k, hdone⟩ := microRdid_identified hid
  exact ⟨id, v, k, microRdid_isMicroOf, hn, hdone⟩

section
variable {s : State} (hn : NoRstNext s) (hp : s.polling = false)
include hn hp

/-- I0 raises ID_MISMATCH (R252). -/
theorem init_aborts_at_I0 {b : Byte} {rest : List Byte} (hstrict : s.cfg.idStrict = true) (hb : b ≠ 0x60#8)
    (ha : Answers s [b] rest) :
    step (s.withControl (upcAt progInit 0) true) =
      .next { rdidState b { s.dev with answers := rest } s.draws s with
              err := s.err ||| 0b00001#5, upc := 0#5, busy := false } :=
  microRdid_blind.step_raised hn ((microRdid_of_answers ha).trans (if_pos ⟨hstrict, hb⟩)) (by decide) hp
    (runBusy_init 0 rfl)

/-- LDCALA is refused at I1 (R152). -/
theorem init_aborts_at_I1 (hid : s.cfg.idStrict = false ∨ ∃ rest, Answers s [0x60#8] rest) (ha : s.calaValid = true) :
    ∃ id v k, Sys2Proof.core.run 2 (s.withControl (upcAt progInit 0) true) =
      .next { rdidState id v k s with err := s.err ||| 0b01000#5, upc := 0#5, busy := false } := by
  obtain ⟨id, v, k, hI0⟩ := microRdid_completes hn hid
  have hI1 := microLdcala_blind.step_raised hI0.noRstAfter (microLdcala_of_loaded ha) (u := upcAt progInit 1)
    (by decide) hp (runBusy_init 1 rfl)
  refine ⟨id, v, k, ?_⟩
  calc Sys2Proof.core.run 2 (s.withControl (upcAt progInit 0) true)
    _ = Sys2Proof.core.run 1 ((rdidState id v k s).withControl (upcAt progInit 1) true) := hI0.run (runBusy_init 0 rfl)
    _ = _ := run_succ hI1

/-- LDCALB is refused at I2 (R152). -/
theorem init_aborts_at_I2 (hid : s.cfg.idStrict = false ∨ ∃ rest, Answers s [0x60#8] rest) (ha : s.calaValid = false)
    (hb : s.calbValid = true) :
    ∃ id v k A v' k', A.length = 26 ∧ Sys2Proof.core.run 3 (s.withControl (upcAt progInit 0) true) =
      .next { blockAState A v' k' (rdidState id v k s) with
              err := s.err ||| 0b01000#5, upc := 0#5, busy := false } := by
  obtain ⟨id, v, k, hI0⟩ := microRdid_completes hn hid
  obtain ⟨A, v', k', hA, hload⟩ := microLdcala_loads (s := rdidState id v k s) ha
  have hI1 : Completes microLdcala .ldcala (rdidState id v k s) _ := ⟨microLdcala_isMicroOf, hI0.noRstAfter, hload⟩
  have hI2 := microLdcalb_blind.step_raised hI1.noRstAfter (microLdcalb_of_loaded hb) (u := upcAt progInit 2)
    (by decide) hp (runBusy_init 2 rfl)
  refine ⟨id, v, k, A, v', k', hA, ?_⟩
  calc Sys2Proof.core.run 3 (s.withControl (upcAt progInit 0) true)
    _ = Sys2Proof.core.run 2 ((rdidState id v k s).withControl (upcAt progInit 1) true) := hI0.run (runBusy_init 0 rfl)
    _ = Sys2Proof.core.run 1 ((blockAState A v' k' (rdidState id v k s)).withControl (upcAt progInit 2) true) :=
        hI1.run (runBusy_init 1 rfl)
    _ = _ := run_succ hI2

end

/-- Settles O29: INIT is accepted at I0 with MODE written, and from there aborts at I0, I1 or I2. -/
theorem initAborts : Obligations.InitAborts := by
  refine ⟨fun m s b rest hm hr hn hd hstrict hb hans => ?_, fun m s hm hr hn hd hid => ⟨fun ha => ?_, fun ha hb => ?_⟩⟩
  · have habort := init_aborts_at_I0 (s := { s with mode := m }) hn hr.2 hstrict hb hans
    exact ⟨_, _, exec_init_accepted hm hr hd, habort, rfl⟩
  · obtain ⟨id, v, k, habort⟩ := init_aborts_at_I1 (s := { s with mode := m }) hn hr.2 hid ha
    exact ⟨_, _, id, exec_init_accepted hm hr hd, habort, rfl⟩
  · obtain ⟨id, v, k, A, v', k', hA, habort⟩ := init_aborts_at_I2 (s := { s with mode := m }) hn hr.2 hid ha hb
    refine ⟨_, _, id, A, exec_init_accepted hm hr hd, habort, hA, ?_⟩
    rw [← drop_after_byte id s.rxbuf, ← rxHigh_after_blockA]
    rfl

end Sys2Proof.Machine
end

section
/-! Measurement, compensation and output commands out of order (spec 42_measure.md R171, 43_compensation.md R192,
44_output.md R231, 60_exceptions.md R255). -/

namespace Sys2Proof.Machine

theorem microPoll_isMicroOf : IsMicroOf microPoll .poll := ⟨fun _ => rfl, microPoll_blind, microPoll_effect⟩

/-! ## The refusals -/

section
variable {s : State}

theorem microPoll_of_uninitialized (h : s.initDone = false) : microPoll s = .raised .badSeq s := if_neg (by simp [h])

theorem microRdraw_of_uninitialized (h : s.initDone = false) : microRdraw s = .raised .badSeq s := if_neg (by simp [h])

theorem exec_meas_of_uninitialized (h : s.initDone = false) : exec .meas s = .next (raiseErr .badSeq s) :=
  if_neg (by simp [h])

theorem microCmpt_of_notReady (h : ¬(s.cyc = 1#3 ∧ s.calaValid = true)) : microCmpt s = .raised .badSeq s :=
  if_neg (by simpa [readyT] using h)

theorem microCmpp_of_notReady (h : ¬(s.cyc = 2#3 ∧ s.calaValid = true)) : microCmpp s = .raised .badSeq s :=
  if_neg (by simpa [readyP] using h)

theorem microCmph_of_notReady (h : ¬(s.cyc = 3#3 ∧ s.calaValid = true ∧ s.calbValid = true)) :
    microCmph s = .raised .badSeq s :=
  if_neg (by simpa [readyH, calValid] using h)

theorem microScale_of_notReady (h : s.cyc ≠ 4#3) : microScale s = .raised .badSeq s :=
  if_neg (by simpa [readyScale] using h)

theorem microAlt_of_notReady (h : s.cyc ≠ 5#3) : microAlt s = .raised .badSeq s :=
  if_neg (by simpa [readyAlt] using h)

end

/-! ## The output stage and the bus -/

/-- SCALE and ALT, completed or refused, do nothing on the bus (R231). -/
theorem MicroEffect.hist_of_output {s : State} {i : Instr} {o : MicroOut} (h : MicroEffect s i o)
    (hi : i ∈ [Instr.scale, .alt]) : o.state.hist = s.hist := by
  cases h with
  | refused he => rfl
  | scale hc => rfl
  | alt hc => rfl
  | frame hf hb =>
    rcases List.mem_pair.mp hi with rfl | rfl <;> exact absurd hf (by decide)
  | _ => exact absurd hi (by decide)

theorem Ends.hist {o : MicroOut} {t : State} (h : Ends o t) : t.hist = o.state.hist := by
  cases h <;> rfl

/-- Settles O42: each refused micro-operation leaves the state to the abort, which sets ERR[3]. -/
theorem outOfOrderIsRefused : Obligations.OutOfOrderIsRefused := by
  refine ⟨fun i s t hi h => ?_, fun i s hi hr hd => ?_, fun s hr => ⟨fun h => ?_, fun h => ?_, fun h => ?_, fun h => ?_,
    fun h => ?_⟩⟩
  · rcases List.mem_pair.mp hi with rfl | rfl
    · exact (ends_of_endCommand h).hist.trans ((microScale_effect s).hist_of_output hi)
    · exact (ends_of_endCommand h).hist.trans ((microAlt_effect s).hist_of_output hi)
  · simp only [List.mem_cons, List.not_mem_nil, or_false] at hi
    rcases hi with rfl | rfl | rfl
    · rw [exec_meas_of_uninitialized hd, raiseErr_of_atRest hr]
      rfl
    · exact microPoll_isMicroOf.exec_badSeq hr (microPoll_of_uninitialized hd)
    · exact microRdraw_isMicroOf.exec_badSeq hr (microRdraw_of_uninitialized hd)
  · exact microCmpt_isMicroOf.exec_badSeq hr (microCmpt_of_notReady h)
  · exact microCmpp_isMicroOf.exec_badSeq hr (microCmpp_of_notReady h)
  · exact microCmph_isMicroOf.exec_badSeq hr (microCmph_of_notReady h)
  · exact microScale_isMicroOf.exec_badSeq hr (microScale_of_notReady h)
  · exact microAlt_isMicroOf.exec_badSeq hr (microAlt_of_notReady h)

end Sys2Proof.Machine
end

section
/-! RDRAW, and the entry of MEAS with its step M0 (spec 42_measure.md R171 to R173, R176, R177). -/

namespace Sys2Proof.Machine

/-! ## RDRAW -/

/-- The block once RDRAW has read the burst `D`: `v` and `k` are what the device and the count of free values have become
(R176, R177). -/
def rawState (D : List Byte) (v : Device) (k : Nat) (s : State) : State :=
  { s with
    adcP := unpackRaw20 (byteAt D 0) (byteAt D 1) (byteAt D 2),
    adcT := unpackRaw20 (byteAt D 3) (byteAt D 4) (byteAt D 5), adcH := unpackRaw16 (byteAt D 6) (byteAt D 7),
    cyc := 1#3, csn := true, sdo := s.cfg.rdFill, rxbuf := D ++ s.rxbuf.drop 8, rxHigh := max s.rxHigh 8,
    hist := s.hist ++ readEvents (s.cfg.addrData ||| 0x80#8) D, dev := v, draws := k }

theorem microRdraw_unpacks {s : State} (h : s.initDone = true) :
    ∃ D v k, D.length = 8 ∧ microRdraw s = .done (rawState D v k s) := microRdraw_cases h

theorem microRdraw_unpacks_answers {s : State} {D rest : List Byte} (h : s.initDone = true) (hlen : D.length = 8)
    (ha : Answers s D rest) : microRdraw s = .done (rawState D { s.dev with answers := rest } s.draws s) :=
  microRdraw_of_answers h hlen ha

/-- The raw registers are the big-endian fields of the burst `D`, the low nibbles of its bytes 2 and 5 dropped (R177). -/
theorem rawState_fields (D : List Byte) (v : Device) (k : Nat) (s : State) :
    (rawState D v k s).adcP.toNat =
        (byteAt D 0).toNat * 4096 + (byteAt D 1).toNat * 16 + (byteAt D 2).toNat / 16 ∧
      (rawState D v k s).adcT.toNat =
        (byteAt D 3).toNat * 4096 + (byteAt D 4).toNat * 16 + (byteAt D 5).toNat / 16 ∧
      (rawState D v k s).adcH.toNat = (byteAt D 6).toNat * 256 + (byteAt D 7).toNat :=
  ⟨unpackRaw20_toNat .., unpackRaw20_toNat .., unpackRaw16_toNat ..⟩

/-- Settles O33: the word is RDRAW's encoding, the refusal is O42's, and the burst is unpacked by `rawState`. -/
theorem rdrawUnpacksTheBurst : Obligations.RdrawUnpacksTheBurst := by
  refine ⟨fun len => decodeOfEncode len .rdraw rfl, fun s hr hd => ?_, fun s hd => ?_⟩
  · exact microRdraw_isMicroOf.exec_badSeq hr (microRdraw_of_uninitialized hd)
  · obtain ⟨D, v, k, hlen, hdone⟩ := microRdraw_unpacks hd
    have hexec := microRdraw_isMicroOf.issued s
    rw [hdone] at hexec
    exact ⟨_, D, hexec, hlen, rfl, rawState_fields D v k s⟩

/-! ## MEAS at M0 -/

/-- The block once WRCTL has written the combined control value, `v` being what the device has become (R157). -/
def rearmedState (v : Device) (s : State) : State :=
  let d := packCtrl s.cfg.osrsT s.cfg.osrsP s.mode
  { s with csn := true, sdo := d, hist := s.hist ++ writeEvents (s.cfg.addrCtrlMeas &&& 0x7F#8) d, dev := v }

theorem microWrctl_writes (s : State) :
    ∃ v, microWrctl s = .done (rearmedState v s) ∧ (s.dev.kind = .oracle → v = s.dev) := by
  obtain ⟨v, hwrite, hv⟩ := busWrite_cases s.cfg.addrCtrlMeas (packCtrl s.cfg.osrsT s.cfg.osrsP s.mode) s
  exact ⟨v, congrArg MicroOut.done hwrite, hv⟩

/-- Settles O34: MEAS enters at M0, which skips to M2 outside Forced mode and is a WRCTL in Forced mode. -/
theorem measEntersAndBranches : Obligations.MeasEntersAndBranches := by
  refine fun s hd hn => ⟨exec_meas_of_done hd, step_measSkip hn, fun hm => ?_⟩
  obtain ⟨v, hdone, -⟩ := microWrctl_writes s
  have hM0 : Completes microWrctl .wrctl s (rearmedState v s) := ⟨microWrctl_isMicroOf, hn, hdone⟩
  exact ⟨_, _, hM0.step (runBusy_measRearm rfl hm), packCtrl_toNat .., rfl⟩

/-- M0 in Forced mode with a device of the oracle kind, which a write leaves as it is. -/
theorem measRearm_of_oracle {s : State} (hn : NoRstNext s) (hk : s.dev.kind = .oracle) (hm : s.mode = s.cfg.modeForced)
    (n : Nat) : Sys2Proof.core.run (n + 1) (s.withControl (upcAt progMeas 0) true) =
      Sys2Proof.core.run n ((rearmedState s.dev s).withControl (upcAt progMeas 1) true) := by
  obtain ⟨v, hdone, hv⟩ := microWrctl_writes s
  rw [hv hk] at hdone
  have hM0 : Completes microWrctl .wrctl s (rearmedState s.dev s) := ⟨microWrctl_isMicroOf, hn, hdone⟩
  exact hM0.run (runBusy_measRearm rfl hm)

end Sys2Proof.Machine
end

section
/-! One iteration of the poll loop: by bit 3 and the limit it ends the loop, goes back to it or raises POLL_TIMEOUT (spec
42_measure.md R174, 60_exceptions.md R253, R261). -/

namespace Sys2Proof.Machine

/-- The block once a poll has read the status byte `b` and counted it: `v` and `k` are what the device and the count of free
values have become (R174). -/
def pollRead (b : Byte) (v : Device) (k : Nat) (s : State) : State :=
  { s with
    pollCnt := if s.cfg.pollLimit.isSome then s.pollCnt + 1 else s.pollCnt, csn := true, sdo := s.cfg.rdFill,
    rxbuf := b :: s.rxbuf.drop 1, rxHigh := max s.rxHigh 1,
    hist := s.hist ++ readEvents (s.cfg.addrStatus ||| 0x80#8) [b], dev := v, draws := k }

/-- The block on its way to the next poll, after a status byte that said busy (R174). -/
def pollAgain (b : Byte) (v : Device) (k : Nat) (s : State) : State :=
  let r := pollRead b v k s
  { r with hist := r.hist ++ [.dly .poll], polling := true }

section
variable {b : Byte} (v : Device) (k : Nat) {s : State}

theorem pollOutcome_of_clear (hb : b.getLsbD 3 = false) :
    pollOutcome b v k s = .done { pollRead b v k s with polling := false } := if_neg (Bool.eq_false_iff.mp hb)

theorem pollOutcome_again (hb : b.getLsbD 3 = true) (he : pollExhausted (pollRead b v k s) = false) :
    pollOutcome b v k s = .again (pollAgain b v k s) := (if_pos hb).trans (if_neg (by rw [← pollRead, he]; decide))

theorem pollOutcome_timeout (hb : b.getLsbD 3 = true) (he : pollExhausted (pollRead b v k s) = true) :
    pollOutcome b v k s = .raised .pollTimeout (pollRead b v k s) := (if_pos hb).trans (if_pos he)

end

/-- An abort of a command that is no step of a micro-program, inside its poll loop too. -/
theorem raiseErr_of_upc_zero {e : ErrCause} {s : State} (h : s.upc = 0#5) :
    raiseErr e s = { s with err := errSet s.err e, busy := false, polling := false } := by
  ext1 <;> simp [raiseErr, h, upcProg]

/-- The count after a read, under a limit (R42). -/
theorem pollRead_pollCnt {s : State} {l : Nat} (h : s.cfg.pollLimit = some l) (b : Byte) (v : Device) (k : Nat) :
    (pollRead b v k s).pollCnt = s.pollCnt + 1 := by
  rw [pollRead, h]
  rfl

theorem pollExhausted_of_none {s : State} (h : s.cfg.pollLimit = none) (b : Byte) (v : Device) (k : Nat) :
    pollExhausted (pollRead b v k s) = false := by
  have h' : (pollRead b v k s).cfg.pollLimit = none := h
  rw [pollExhausted, h']

/-- The limit is reached when the count after the read is (R253). -/
theorem pollExhausted_of_limit {s : State} {l : Nat} (h : s.cfg.pollLimit = some l) (b : Byte) (v : Device) (k : Nat) :
    pollExhausted (pollRead b v k s) = decide (l ≤ s.pollCnt + 1) := by
  have h' : (pollRead b v k s).cfg.pollLimit = some l := h
  rw [pollExhausted, h', ← pollRead_pollCnt h b v k]

/-- Settles O30: the first iteration of the loop ends in one of three ways, by bit 3 and the limit. -/
theorem pollReadsTheStatus : Obligations.PollReadsTheStatus := by
  intro s hr hd
  obtain ⟨b, v, k, hread⟩ := microPollOnce_cases { s with pollCnt := 0 }
  have hexec : exec .poll s = endCommand (pollOutcome b v k { s with pollCnt := 0 }) := by
    rw [microPoll_isMicroOf.issued, microPoll_of_done hd, hread]
  obtain ⟨t, ht, -⟩ := endCommand_dev (pollOutcome b v k { s with pollCnt := 0 })
  refine ⟨t, b, hexec.trans ht, ?_⟩
  intro atLimit goesOn
  have hlimit : pollExhausted (pollRead b v k { s with pollCnt := 0 }) = atLimit := by
    cases hl : s.cfg.pollLimit with
    | none =>
      rw [pollExhausted_of_none (s := { s with pollCnt := 0 }) hl]
      simp only [atLimit, hl]
    | some l =>
      rw [pollExhausted_of_limit (s := { s with pollCnt := 0 }) hl]
      simp only [atLimit, hl, Nat.zero_add]
  cases hb : b.getLsbD 3 with
  | false =>
    rw [pollOutcome_of_clear v k hb] at ht
    cases ht
    simp only [goesOn, hb, Bool.false_and, Bool.false_eq_true, if_false, List.append_nil]
    rfl
  | true =>
    cases hlim : atLimit with
    | false =>
      rw [pollOutcome_again v k hb (hlimit.trans hlim)] at ht
      cases ht
      simp only [goesOn, hb, hlim, Bool.and_false, Bool.not_false, Bool.and_true, Bool.false_eq_true, if_true, if_false]
      rfl
    | true =>
      rw [pollOutcome_timeout v k hb (hlimit.trans hlim), endCommand,
        raiseErr_of_upc_zero (s := pollRead b v k { s with pollCnt := 0 }) hr.1] at ht
      cases ht
      simp only [goesOn, hb, hlim, Bool.not_true, Bool.and_false, Bool.and_true, Bool.false_eq_true, if_true, if_false,
        List.append_nil]
      rfl

end Sys2Proof.Machine
end

section
/-! The poll loop over known status bytes: a stuck device keeps it going, and POLL_LIMIT ends it (spec 42_measure.md R174,
R175, 60_exceptions.md R253, R256, R270). -/

namespace Sys2Proof.Machine

/-! ## What a device answers to a poll -/

/-- A poll of the device `d` reads the status byte `b` and leaves the device `d'`. -/
def PollReads (cfg : Params) (b : Byte) (d d' : Device) : Prop :=
  ∀ s : State, s.cfg = cfg → s.dev = d → microPollOnce s = pollOutcome b d' s.draws s

/-- Polls of the device read these status bytes one after the other. -/
inductive PollsRead (cfg : Params) : List Byte → Device → Device → Prop
  | nil (d : Device) : PollsRead cfg [] d d
  | cons {b bs d d' d''} (h : PollReads cfg b d d') (t : PollsRead cfg bs d' d'') : PollsRead cfg (b :: bs) d d''

theorem pollReads_of_answers (cfg : Params) {b : Byte} {rest : List Byte} {d : Device} (hk : d.kind = .oracle)
    (ha : d.answers = b :: rest) : PollReads cfg b d { d with answers := rest } := by
  rintro s - rfl
  exact microPollOnce_of_answers ⟨hk, ha⟩

theorem pollsRead_of_answers (cfg : Params) {bs rest : List Byte} {d : Device} (hk : d.kind = .oracle)
    (ha : d.answers = bs ++ rest) : PollsRead cfg bs d { d with answers := rest } := by
  induction bs generalizing d with
  | nil =>
    rw [← show d.answers = rest from ha]
    exact .nil d
  | cons b bs ih => exact .cons (pollReads_of_answers cfg hk ha) (ih (d := { d with answers := bs ++ rest }) hk rfl)

/-! ## A stuck device -/

/-- A reference device whose conversion never ends: bit 3 is set and stays (R74). -/
structure StuckBusy (cfg : Params) (d : Device) : Prop where
  kind : d.kind = .reference
  stuck : d.stuck = true
  settled : d.sampleDue = false
  busy : statusBusy (memRead d.reg (wireAddr cfg.addrStatus).toNat) = true

/-- All that a poll of a stuck device changes is the device's view of the frame. -/
theorem StuckBusy.polled {cfg : Params} {d : Device} (h : StuckBusy cfg d) :
    devEndFrame cfg (d.polled cfg) =
      { d.addressedAt cfg.addrStatus true with ptr := devNextPtr (wireAddr cfg.addrStatus) } := by
  have hcount : devCountDown cfg (d.addressedAt cfg.addrStatus true) = d.addressedAt cfg.addrStatus true :=
    if_neg fun hc => Bool.false_ne_true (hc.2.2.symm.trans h.stuck)
  have hpolled : d.polled cfg =
      { d.addressedAt cfg.addrStatus true with ptr := devNextPtr (wireAddr cfg.addrStatus) } := by
    rw [Device.polled, devAfterRx, hcount]
    rfl
  rw [hpolled]
  exact devEndFrame_of_quiet h.settled (.inr h.stuck)

/-- A poll of a stuck device reads bit 3 set and leaves it stuck. -/
theorem StuckBusy.reads {cfg : Params} {d : Device} (h : StuckBusy cfg d) :
    ∃ b d', b.getLsbD 3 = true ∧ StuckBusy cfg d' ∧ PollReads cfg b d d' := by
  refine ⟨_, devEndFrame cfg (d.polled cfg), h.busy, ?_, ?_⟩
  · rw [h.polled]
    exact ⟨h.kind, h.stuck, h.settled, h.busy⟩
  · rintro s rfl rfl
    exact microPollOnce_of_read (busRead_of_reference s.cfg.addrStatus one_ne_zero h.kind)

/-- Any number of them. -/
theorem StuckBusy.pollsRead {cfg : Params} {d : Device} (h : StuckBusy cfg d) (n : Nat) :
    ∃ bs d', bs.length = n ∧ (∀ b ∈ bs, b.getLsbD 3 = true) ∧ PollsRead cfg bs d d' := by
  induction n generalizing d with
  | zero => exact ⟨[], d, rfl, nofun, .nil d⟩
  | succ n ih =>
    obtain ⟨b, d1, hb, hstuck, hread⟩ := h.reads
    obtain ⟨bs, d2, hlen, hbusy, hreads⟩ := ih hstuck
    exact ⟨b :: bs, d2, congrArg (· + 1) hlen, List.forall_mem_cons.mpr ⟨hb, hbusy⟩, .cons hread hreads⟩

/-! ## An iteration of known outcome -/

/-- How many reads POLL_CNT has counted when the next iteration begins: a POLL starts at 0 (R42, R174). -/
def pollsBefore (s : State) : Nat := if s.polling then s.pollCnt else 0

/-- The state in which the next iteration reads. -/
def pollStart (s : State) : State := { s with pollCnt := pollsBefore s }

/-- The next iteration is what `pollOutcome` says of the byte read. -/
theorem pollNext_of_read {s : State} {b : Byte} {v : Device} (hd : s.initDone = true) (h : PollReads s.cfg b s.dev v) :
    pollNext s = pollOutcome b v s.draws (pollStart s) := by
  refine Eq.trans ?_ (h (pollStart s) rfl rfl)
  unfold pollNext pollStart pollsBefore
  split
  · rfl
  · exact microPoll_of_done hd

/-- A busy status short of the limit, if there is one, goes back to the loop (R174). -/
theorem pollNext_again {s : State} {b : Byte} {v : Device} (hd : s.initDone = true) (h : PollReads s.cfg b s.dev v)
    (hb : b.getLsbD 3 = true) (hl : ∀ l, s.cfg.pollLimit = some l → pollsBefore s + 1 < l) :
    pollNext s = .again (pollAgain b v s.draws (pollStart s)) := by
  refine (pollNext_of_read hd h).trans (pollOutcome_again v s.draws hb ?_)
  cases hlim : s.cfg.pollLimit with
  | none => exact pollExhausted_of_none (s := pollStart s) hlim b v _
  | some l =>
    rw [pollExhausted_of_limit (s := pollStart s) hlim]
    exact decide_eq_false (hl l hlim).not_ge

/-- A busy status at the limit raises POLL_TIMEOUT (R253). -/
theorem pollNext_timeout {s : State} {b : Byte} {v : Device} (hd : s.initDone = true) (h : PollReads s.cfg b s.dev v)
    (hb : b.getLsbD 3 = true) (hl : s.cfg.pollLimit = some (pollsBefore s + 1)) :
    pollNext s = .raised .pollTimeout (pollRead b v s.draws (pollStart s)) := by
  refine (pollNext_of_read hd h).trans (pollOutcome_timeout v s.draws hb ?_)
  rw [pollExhausted_of_limit (s := pollStart s) hl]
  exact decide_eq_true le_rfl

/-! ## No limit -/

/-- Without a limit a MEAS at its poll loop is there after any number of iterations. -/
theorem meas_polls_on {s : State} (hn : NoRstNext s) (hd : s.initDone = true) (hl : s.cfg.pollLimit = none)
    (hs : StuckBusy s.cfg s.dev) (k : Nat) :
    ∃ t : State, Sys2Proof.core.run k (s.withControl (upcAt progMeas 1) true) =
        .next (t.withControl (upcAt progMeas 1) true) ∧
      t.err = s.err ∧ t.hist.length = s.hist.length + 7 * k := by
  induction k generalizing s with
  | zero => exact ⟨s, rfl, rfl, rfl⟩
  | succ k ih =>
    obtain ⟨b, v, hb, hv, hread⟩ := hs.reads
    have hstep := step_measPoll hn
    rw [pollNext_again hd hread hb (by simp [hl])] at hstep
    obtain ⟨t, hrun, herr, hlen⟩ := ih (s := pollAgain b v s.draws (pollStart s)) hn hd hl hv
    refine ⟨t, (run_succ hstep).trans hrun, herr, hlen.trans ?_⟩
    simp only [pollAgain, pollRead, pollStart, readEvents, List.length_append, List.length_cons, List.length_nil,
      List.length_map]
    omega

/-- Settles O31: every iteration reads bit 3 set and goes back to the loop. -/
theorem pollOfAStuckDeviceNeverEnds : Obligations.PollOfAStuckDeviceNeverEnds := by
  intro s k hb hu hd hl hn hk hstuck hdue hbusy
  have hs : s.withControl (upcAt progMeas 1) true = s := by
    rw [← hb, show upcAt progMeas 1 = s.upc from hu.symm]
    rfl
  obtain ⟨t, hrun, herr, hlen⟩ := meas_polls_on hn hd hl ⟨hk, hstuck, hdue, hbusy⟩ k
  rw [hs] at hrun
  exact ⟨_, hrun, rfl, rfl, herr, hlen⟩

/-! ## The limit -/

/-- The block once a poll loop has read the status bytes `bs` and raised POLL_TIMEOUT: `v` is what the device has become
(R174, R253, R256). -/
def timedOut (bs : List Byte) (v : Device) (s : State) : State :=
  { s with
    pollCnt := pollsBefore s + bs.length, err := s.err ||| 0b00010#5, rxbuf := bs.getLastD 0#8 :: s.rxbuf.drop 1,
    rxHigh := max s.rxHigh 1, upc := 0#5, busy := false, polling := false, csn := true, sdo := s.cfg.rdFill,
    hist := s.hist ++ pollEvents (s.cfg.addrStatus ||| 0x80#8) bs, dev := v }

/-- The first of at least two busy status bytes leaves the rest of the loop to the others. -/
theorem timedOut_pollAgain {s : State} {l : Nat} (hl : s.cfg.pollLimit = some l) (b b' : Byte) (bs : List Byte)
    (w v : Device) :
    timedOut (b' :: bs) v (pollAgain b w s.draws (pollStart s)) = timedOut (b :: b' :: bs) v s := by
  have hcnt : pollsBefore (pollAgain b w s.draws (pollStart s)) = pollsBefore s + 1 :=
    pollRead_pollCnt (s := pollStart s) hl b w s.draws
  have hlen : pollsBefore s + 1 + (b' :: bs).length = pollsBefore s + (b :: b' :: bs).length := by
    simp only [List.length_cons]
    omega
  have hhigh : max (max s.rxHigh 1) 1 = max s.rxHigh 1 := by omega
  unfold timedOut
  rw [hcnt, hlen]
  simp only [pollAgain, pollRead, pollStart, hhigh, List.drop_succ_cons, List.drop_zero, pollEvents, List.append_assoc,
    List.getLastD_cons]

/-- The abort at the limit, of a POLL or of MEAS at M1. -/
theorem raiseErr_timedOut {s : State} (hl : s.cfg.pollLimit = some (pollsBefore s + 1)) (b : Byte) (v : Device)
    {u : BitVec 5} (hu : u = 0#5 ∨ upcProg u ≠ 0#2) (busy : Bool) :
    raiseErr .pollTimeout ((pollRead b v s.draws (pollStart s)).withControl u busy) = timedOut [b] v s := by
  have hraise : raiseErr .pollTimeout ((pollRead b v s.draws (pollStart s)).withControl u busy) =
      { pollRead b v s.draws (pollStart s) with
        err := s.err ||| 0b00010#5, upc := 0#5, busy := false, polling := false } := by
    rcases hu with rfl | hu
    · exact raiseErr_of_upc_zero (s := State.withControl 0 _ _) rfl
    · exact raiseErr_of_running (s := State.withControl u _ _) hu
  have hcnt : (pollRead b v s.draws (pollStart s)).pollCnt = pollsBefore s + [b].length :=
    pollRead_pollCnt (s := pollStart s) hl b v s.draws
  rw [hraise, timedOut, ← hcnt]
  rfl

/-- A host-issued POLL inside its loop takes the next iteration (R174). -/
theorem step_pollLoop {s : State} (hn : NoRstNext s) (hp : s.polling = true) :
    step (s.withControl 0 true) = endCommand (pollNext (s.withControl 0 true)) := by
  rw [step_of_busy (s := s.withControl 0 true) rfl hn, runBusy_pollNext (s := s.withControl 0 true) rfl hp]

/-- A poll loop that reads only busy status bytes, as many as the limit still allows: as a POLL with the steps that follow
it, and at M1 of MEAS, it ends in the same state. -/
theorem timeoutSequence {b : Byte} {bs : List Byte} {s : State} {v : Device} (hn : NoRstNext s) (hd : s.initDone = true)
    (hl : s.cfg.pollLimit = some (pollsBefore s + (bs.length + 1))) (hb : ∀ x ∈ b :: bs, x.getLsbD 3 = true)
    (hr : PollsRead s.cfg (b :: bs) s.dev v) :
    ∃ p, (∀ busy, endCommand (pollNext (s.withControl 0 busy)) = .next p) ∧
      Sys2Proof.core.run bs.length p = .next (timedOut (b :: bs) v s) ∧
      Sys2Proof.core.run (bs.length + 1) (s.withControl (upcAt progMeas 1) true) = .next (timedOut (b :: bs) v s) := by
  induction bs generalizing b s with
  | nil =>
    obtain _ | ⟨hread, hrest⟩ := hr
    cases hrest
    have hlast := pollNext_timeout hd hread (hb b List.mem_cons_self) hl
    have hstep := step_measPoll hn
    rw [hlast] at hstep
    refine ⟨timedOut [b] v s, fun busy => ?_, rfl, (run_succ hstep).trans ?_⟩
    · rw [pollNext_blind, hlast]
      exact congrArg Host.Outcome.next (raiseErr_timedOut hl b v (.inl rfl) busy)
    · exact congrArg Host.Outcome.next (raiseErr_timedOut hl b v (u := upcAt progMeas 1) (.inr (by decide)) true)
  | cons b' bs ih =>
    obtain _ | @⟨_, _, _, w, _, hread, hrest⟩ := hr
    obtain ⟨hb0, hbs⟩ := List.forall_mem_cons.mp hb
    have hlim : ∀ l, s.cfg.pollLimit = some l → pollsBefore s + 1 < l := by
      intro l hl'
      have := Option.some.inj (hl.symm.trans hl')
      simp only [List.length_cons] at this
      omega
    have hagain := pollNext_again hd hread hb0 hlim
    have hstep := step_measPoll hn
    rw [hagain] at hstep
    have hcnt : pollsBefore (pollAgain b w s.draws (pollStart s)) = pollsBefore s + 1 :=
      pollRead_pollCnt (s := pollStart s) hl b w s.draws
    obtain ⟨p, hissued, hrun, hmeas⟩ := ih (b := b') (s := pollAgain b w s.draws (pollStart s)) hn hd
      (by rw [hcnt, Nat.add_assoc, Nat.add_comm 1]; exact hl) hbs hrest
    have hloop := (step_pollLoop (s := pollAgain b w s.draws (pollStart s)) hn rfl).trans (hissued true)
    rw [timedOut_pollAgain hl] at hrun hmeas
    refine ⟨(pollAgain b w s.draws (pollStart s)).withControl 0 true, fun busy => ?_, (run_succ hloop).trans hrun,
      (run_succ hstep).trans hmeas⟩
    rw [pollNext_blind, hagain]
    rfl

/-- Six events a read, and a delay between two. -/
theorem pollEvents_length (w b : Byte) (bs : List Byte) :
    (pollEvents w (b :: bs)).length = 6 * (bs.length + 1) + bs.length := by
  induction bs generalizing b with
  | nil => rfl
  | cons b' bs ih =>
    simp only [pollEvents, readEvents, List.length_append, List.length_cons, List.length_nil, List.length_map, ih]
    omega

theorem pollsBefore_of_notPolling {s : State} (hp : s.polling = false) : pollsBefore s = 0 :=
  if_neg (Bool.eq_false_iff.mp hp)

/-- Settles O32: the loop of `timeoutSequence`, entered by a POLL of a stuck device, and from M0 of MEAS. -/
theorem pollLimitEndsThePoll : Obligations.PollLimitEndsThePoll := by
  refine ⟨fun s l hr hd hl hn hk hstuck hdue hbusy => ?_, fun s l bs rest hd hn hp hm hl hlen hb hans => ?_⟩
  · obtain ⟨bs, v, hlen, hb, hreads⟩ := StuckBusy.pollsRead ⟨hk, hstuck, hdue, hbusy⟩ (l + 1)
    obtain ⟨b, bs, rfl⟩ := List.exists_cons_of_length_eq_add_one hlen
    obtain rfl : bs.length = l := Nat.succ.inj hlen
    have hstart := pollsBefore_of_notPolling hr.2
    obtain ⟨p, hissued, hrun, -⟩ := timeoutSequence hn hd (by rw [hl, hstart, Nat.zero_add]) hb hreads
    have hexec := hissued s.busy
    rw [hr.withControl, ← exec_poll_of_notPolling hr.2] at hexec
    refine ⟨p, _, hexec, hrun, rfl, rfl, rfl, ?_, ?_, rfl, rfl⟩
    · simp only [timedOut, hstart, Nat.zero_add, List.length_cons]
    · simp only [timedOut, List.length_append, pollEvents_length, Nat.add_assoc]
  · obtain ⟨b, bs, rfl⟩ := List.exists_cons_of_length_eq_add_one hlen
    obtain rfl : bs.length = l := Nat.succ.inj hlen
    have hstart : pollsBefore (rearmedState s.dev s) = 0 := pollsBefore_of_notPolling hp
    obtain ⟨-, -, -, hrun⟩ := timeoutSequence (s := rearmedState s.dev s) hn hd
      (by rw [hstart, Nat.zero_add]; exact hl) hb (pollsRead_of_answers s.cfg hans.1 hans.2)
    refine ⟨_, _, _, exec_meas_of_done hd, (measRearm_of_oracle hn hans.1 hm _).trans hrun, packCtrl_toNat .., ?_⟩
    rw [timedOut, hstart, Nat.zero_add, hp]
    rfl

end Sys2Proof.Machine
end

section
/-! MEAS from the raw burst to the complete record (spec 42_measure.md R172 to R181, 43_compensation.md R192, 44_output.md
R232, R236). -/

namespace Sys2Proof.Machine

/-! ## The micro-operations under wrap-around, as one update of the state each -/

/-- The block once CMPT has run under wrap-around, whatever the bodies (R196). -/
def tempState (s : State) : State :=
  let r := (bodyOf s.cfg.compBody).compT s.adcT s.cal.t
  { s with tfine := r.tfine.val, tX100 := r.t.val, cyc := 2#3 }

/-- The block once CMPP has (R203). -/
def pressState (s : State) : State :=
  { s with pX100 := ((bodyOf s.cfg.compBody).compP s.adcP s.tfine s.cal.p).val, cyc := 3#3 }

/-- The block once CMPH has (R213). -/
def humState (s : State) : State :=
  { s with hX1024 := ((bodyOf s.cfg.compBody).compH s.adcH s.tfine s.cal.h).val, cyc := 4#3 }

/-- The block once SCALE has run (R232). -/
def scaledState (s : State) : State :=
  { s with
    measValid := false
    mT := .real (rnd ((s.tX100.toInt : Rat) / centiScale))
    mP := .real (rnd ((s.pX100.toNat : Rat) / centiScale))
    mH := .real (rnd ((s.hX1024.toNat : Rat) / humScale))
    cyc := 5#3 }

/-- The block once ALT has run (R236, R237). -/
def recordedState (s : State) : State :=
  { s with
    mAlt := altResult s.mT s.mP (Config.freeAlt s.draws)
    draws := s.draws + 1
    measValid := true
    cyc := 6#3 }

section
variable {s : State}

theorem CanMeasure.noFault (hs : CanMeasure s) (o : Bool) : ¬arithFault s.cfg o = true :=
  Bool.eq_false_iff.mp (arithFault_of_wrap hs.wrap o)

theorem CanMeasure.microCmpt_eq (hs : CanMeasure s) (hc : s.cyc = 1#3) : microCmpt s = .done (tempState s) :=
  (if_pos (by simp [readyT, hc, hs.calaValid])).trans (if_neg (hs.noFault _))

theorem CanMeasure.microCmpp_eq (hs : CanMeasure s) (hc : s.cyc = 2#3) : microCmpp s = .done (pressState s) :=
  (if_pos (by simp [readyP, hc, hs.calaValid])).trans (if_neg (hs.noFault _))

theorem CanMeasure.microCmph_eq (hs : CanMeasure s) (hc : s.cyc = 3#3) : microCmph s = .done (humState s) :=
  (if_pos (by simp [readyH, calValid, hc, hs.calaValid, hs.calbValid])).trans (if_neg (hs.noFault _))

theorem microScale_eq (hc : s.cyc = 4#3) : microScale s = .done (scaledState s) := if_pos (beq_iff_eq.mpr hc)

/-- Where the pressure is a number but 0, ALT stores the rounded formula (R236). -/
theorem altResult_of_ne_zero (t : Rat) {p : Rat} (free : Flt) (h : p ≠ 0) :
    altResult (.real t) (.real p) free = .real (rnd (altitude t p)) := if_neg h

theorem microAlt_eq (hc : s.cyc = 5#3) : microAlt s = .done (recordedState s) := if_pos (beq_iff_eq.mpr hc)

end

/-! ## M2 to M7 -/

/-- The block once M2 to M7 of MEAS have run, `D` being the raw burst: `v` and `k` are what the device and the count of free
values have become with it. -/
def measuredState (D : List Byte) (v : Device) (k : Nat) (s : State) : State :=
  recordedState (scaledState (humState (pressState (tempState (rawState D v k s)))))

/-- What stands there is made of the burst. -/
theorem measuredState_measuredFrom (D : List Byte) (v : Device) (k : Nat) (s : State) :
    MeasuredFrom s D ((measuredState D v k s).withControl 0 false) :=
  ⟨rawState_fields D v k s, ⟨rfl, rfl, rfl, rfl⟩, rfl, rfl, rfl, fun hp => altResult_of_ne_zero _ _ hp⟩

/-- MEAS from M2 on: its six micro-operations complete as in `measSequence`, here with the state each of them leaves. -/
theorem run_measured {s : State} (hs : CanMeasure s) {D : List Byte} {v : Device} {k : Nat}
    (hraw : microRdraw s = .done (rawState D v k s)) :
    Sys2Proof.core.run 6 (s.withControl (upcAt progMeas 2) true) =
      .next ((measuredState D v k s).withControl 0 false) := by
  have c1 : Completes microRdraw .rdraw s _ := ⟨microRdraw_isMicroOf, hs.noRst, hraw⟩
  have hs1 := c1.effect.canMeasure hs
  have c2 : Completes microCmpt .cmpt _ _ := ⟨microCmpt_isMicroOf, hs1.noRst, hs1.microCmpt_eq rfl⟩
  have hs2 := c2.effect.canMeasure hs1
  have c3 : Completes microCmpp .cmpp _ _ := ⟨microCmpp_isMicroOf, hs2.noRst, hs2.microCmpp_eq rfl⟩
  have hs3 := c3.effect.canMeasure hs2
  have c4 : Completes microCmph .cmph _ _ := ⟨microCmph_isMicroOf, hs3.noRst, hs3.microCmph_eq rfl⟩
  have c5 : Completes microScale .scale _ _ := ⟨microScale_isMicroOf, c4.noRstAfter, microScale_eq rfl⟩
  have c6 : Completes microAlt .alt _ _ := ⟨microAlt_isMicroOf, c5.noRstAfter, microAlt_eq rfl⟩
  calc Sys2Proof.core.run 6 (s.withControl (upcAt progMeas 2) true)
    _ = Sys2Proof.core.run 5 _ := c1.run (runBusy_meas 2 rfl)
    _ = Sys2Proof.core.run 4 _ := c2.run (runBusy_meas 3 rfl)
    _ = Sys2Proof.core.run 3 _ := c3.run (runBusy_meas 4 rfl)
    _ = Sys2Proof.core.run 2 _ := c4.run (runBusy_meas 5 rfl)
    _ = Sys2Proof.core.run 1 _ := c5.run (runBusy_meas 6 rfl)
    _ = .next ((measuredState D v k s).withControl 0 false) := run_succ (c6.step (next := endMeas) (runBusy_meas 7 rfl))

/-- The same, the final state named by what it is: a complete record, and all that M2 to M7 leave as it was (R181, R232,
R236). -/
theorem run_measures {s : State} (hs : CanMeasure s) {D : List Byte} {v : Device} {k : Nat}
    (hraw : microRdraw s = .done (rawState D v k s)) :
    ∃ u, Sys2Proof.core.run 6 (s.withControl (upcAt progMeas 2) true) = .next u ∧ MeasuredFrom s D u ∧
      u = { s with
        adcP := u.adcP, adcT := u.adcT, adcH := u.adcH, tfine := u.tfine, tX100 := u.tX100, pX100 := u.pX100,
        hX1024 := u.hX1024, mT := u.mT, mP := u.mP, mH := u.mH, mAlt := u.mAlt, measValid := true, cyc := 6#3,
        upc := 0#5, busy := false, rxbuf := D ++ s.rxbuf.drop 8, rxHigh := max s.rxHigh 8, csn := true,
        sdo := s.cfg.rdFill, hist := s.hist ++ readEvents (s.cfg.addrData ||| 0x80#8) D, dev := v, draws := k + 1 } :=
  ⟨_, run_measured hs hraw, measuredState_measuredFrom D v k s, rfl⟩

/-- Settles O35: M0 skips to M2, and from there every micro-operation completes. -/
theorem measCompletesOutsideForced : Obligations.MeasCompletesOutsideForced := by
  intro s hd hn hm hw ha hb
  obtain ⟨D, v, k, hlen, hraw⟩ := microRdraw_unpacks hd
  obtain ⟨u, hrun, hmeasured, hu⟩ := run_measures ⟨hn, hd, ha, hb, hw⟩ hraw
  refine ⟨_, u, D, exec_meas_of_done hd, (run_succ (step_measSkip hn hm)).trans hrun, hlen, hmeasured, ?_⟩
  rw [show u.dev = v from congrArg State.dev hu, show u.draws = k + 1 from congrArg State.draws hu]
  exact hu

/-! ## M0 and M1 in Forced mode -/

/-- The block once M0 has written and M1 has read the clear status byte `b`, `v` being what the device has become (R173,
R174). -/
def armedState (b : Byte) (v : Device) (s : State) : State :=
  { s with
    pollCnt := if s.cfg.pollLimit.isSome then 1 else 0, polling := false, rxbuf := b :: s.rxbuf.drop 1,
    rxHigh := max s.rxHigh 1, csn := true, sdo := s.cfg.rdFill,
    hist := s.hist ++
      writeEvents (s.cfg.addrCtrlMeas &&& 0x7F#8) (packCtrl s.cfg.osrsT s.cfg.osrsP s.mode) ++
        readEvents (s.cfg.addrStatus ||| 0x80#8) [b],
    dev := v }

/-- A poll after M0 that reads a clear status byte. -/
theorem pollNext_rearmed {s : State} {b : Byte} {rest : List Byte} (hd : s.initDone = true) (hp : s.polling = false)
    (hb : b.getLsbD 3 = false) (ha : Answers s [b] rest) :
    pollNext (rearmedState s.dev s) = .done (armedState b { s.dev with answers := rest } s) := by
  have hstart : pollsBefore (rearmedState s.dev s) = 0 := pollsBefore_of_notPolling hp
  rw [pollNext_of_read (s := rearmedState s.dev s) hd (pollReads_of_answers s.cfg ha.1 ha.2), pollOutcome_of_clear _ _ hb,
    pollStart, hstart]
  rfl

/-- M0 and M1 with a device known to answer a clear status byte: the write, one read, and on to M2. -/
theorem run_arms {s : State} {b : Byte} {rest : List Byte} (hn : NoRstNext s) (hd : s.initDone = true)
    (hp : s.polling = false) (hm : s.mode = s.cfg.modeForced) (hb : b.getLsbD 3 = false) (ha : Answers s [b] rest)
    (n : Nat) : Sys2Proof.core.run (n + 2) (s.withControl (upcAt progMeas 0) true) =
      Sys2Proof.core.run n ((armedState b { s.dev with answers := rest } s).withControl (upcAt progMeas 2) true) := by
  have hM1 := step_measPoll (s := rearmedState s.dev s) hn
  rw [pollNext_rearmed hd hp hb ha] at hM1
  exact (measRearm_of_oracle hn ha.1 hm (n + 1)).trans (run_succ hM1)

/-- A burst of one byte leaves nothing of itself under the raw burst (R26). -/
theorem drop_raw_after_byte (b : Byte) (r : List Byte) : (b :: r.drop 1).drop 8 = r.drop 8 := by
  rw [List.drop_succ_cons, List.drop_drop]

theorem rxHigh_after_raw (n : Nat) : max (max n 1) 8 = max n 8 := by omega

/-- The record is computed under the parameters and the calibration, which M0 and M1 leave alone. -/
theorem MeasuredFrom.congr {s s' u : State} {D : List Byte} (hcfg : s'.cfg = s.cfg) (hcal : s'.cal = s.cal)
    (h : MeasuredFrom s' D u) : MeasuredFrom s D u := by
  unfold MeasuredFrom at h ⊢
  rw [hcfg, hcal] at h
  exact h

/-- Settles O36: M0 writes, M1 reads a clear status, and from M2 on every micro-operation completes. -/
theorem measCompletesInForced : Obligations.MeasCompletesInForced := by
  intro s b D rest hd hn hp hm hw ha hb hlen hclear hans
  have hM0 := run_arms (rest := D ++ rest) hn hd hp hm hclear hans 6
  have hs : CanMeasure (armedState b { s.dev with answers := D ++ rest } s) := ⟨hn, hd, ha, hb, hw⟩
  have hraw := microRdraw_unpacks_answers (rest := rest) hs.initDone hlen ⟨hans.1, rfl⟩
  obtain ⟨u, hM2, hmeasured, hu⟩ := run_measures hs hraw
  refine ⟨_, u, _, exec_meas_of_done hd, hM0.trans hM2, packCtrl_toNat .., hmeasured.congr rfl rfl, ?_⟩
  rw [hp, ← drop_raw_after_byte b s.rxbuf, ← rxHigh_after_raw]
  exact hu

end Sys2Proof.Machine
end

section
/-! What CMPT, CMPP and CMPH store under wrap-around, as 32-bit arithmetic, one intermediate of their bodies at a time (spec
43_compensation.md R191 to R220). -/

namespace Sys2Proof.Machine

/-! ## The commands under wrap-around, whatever the bodies -/

section
variable {s : State} (hw : s.cfg.overflow = .wrap) (ha : s.calaValid = true)
include hw ha

theorem exec_cmpt_of_wrap (hc : s.cyc = 1#3) : exec .cmpt s = .next (finish (tempState s)) :=
  congrArg endCommand <| (if_pos (by simp [readyT, hc, ha])).trans (if_neg (by simp [arithFault_of_wrap hw]))

theorem exec_cmpp_of_wrap (hc : s.cyc = 2#3) : exec .cmpp s = .next (finish (pressState s)) :=
  congrArg endCommand <| (if_pos (by simp [readyP, hc, ha])).trans (if_neg (by simp [arithFault_of_wrap hw]))

theorem exec_cmph_of_wrap (hc : s.cyc = 3#3) (hb : s.calbValid = true) :
    exec .cmph s = .next (finish (humState s)) :=
  congrArg endCommand <|
    (if_pos (by simp [readyH, calValid, hc, ha, hb])).trans (if_neg (by simp [arithFault_of_wrap hw]))

end

/-! ## What every body has of its intermediates (R220) -/

/-- A constant of the bodies as a 32-bit value. -/
theorem const_ofNat_val (n : Nat) : (const (no_index (OfNat.ofNat n))).val = BitVec.ofNat 32 (OfNat.ofNat n) :=
  BitVec.ofInt_ofNat 32 n

/-- T-FINAL. -/
theorem compT_t_val (c : BodyChoice) (adcT : BitVec 20) (k : TempCoeffs) :
    ((bodyOf c).compT adcT k).t.val = (((bodyOf c).compT adcT k).tfine.val * 5#32 + 128#32).sshiftRight 8 := by
  rw [compT_final, asrS_val, addS_val, mulS_val, const_ofNat_val, const_ofNat_val, exact_val]

theorem tempOfTerms_tfine_val (var1 var2 : Checked S32) : (tempOfTerms var1 var2).tfine.val = var1.val + var2.val :=
  addS_val var1 var2

/-- P-GUARD and P-BRANCH, what comes after the division depending on the quotient alone. -/
theorem guardedDivision_val (before : Bool) (p d : Checked U32) {after : Checked U32 → Checked U32} {f : U32 → U32}
    (hf : ∀ x, (after x).val = f x.val) :
    (guardedDivision before p d after).val =
      if d.val = 0#32 then 0#32
      else f (if p.val < 0x80000000#32 then (p.val <<< 1) / d.val else (p.val / d.val) * 2#32) := by
  unfold guardedDivision
  rw [← pressDivide_val, ← hf]
  exact apply_ite Checked.val (d.val = 0#32) _ _

/-- H-CLAMP on 32-bit values. -/
theorem clampShift_val (w : Checked S32) :
    (clampShift w).val =
      (if w.val.toInt < 0 then 0#32 else if 419430400 < w.val.toInt then 419430400#32 else w.val) >>> 12 := by
  rw [clampShift, lsrU_val, hClampMax]
  congr 1
  by_cases hneg : w.val.toInt < 0
  · simp [hneg, s32]
  · by_cases hbig : 419430400 < w.val.toInt
    · simp [hneg, hbig, s32]
    · simp [hneg, hbig]

/-- H-CLAMP on numbers. -/
theorem clampShift_toNat (w : Checked S32) :
    ((clampShift w).val.toNat : Int) =
      if w.val.toInt < 0 then 0 else if 419430400 < w.val.toInt then 102400 else w.val.toInt / 4096 := by
  rw [clampShift_val]
  split_ifs with hneg hbig
  · rfl
  · rfl
  · have hnat : w.val.toInt = w.val.toNat :=
      BitVec.toInt_eq_toNat_of_msb (BitVec.msb_eq_toInt.trans (decide_eq_false hneg))
    rw [BitVec.toNat_ushiftRight, Nat.shiftRight_eq_div_pow, Int.natCast_ediv, hnat]
    rfl

/-! ## The reference temperature body (R196) -/

theorem tempVar1_val (adcT : BitVec 20) (c : TempCoeffs) :
    (tempVar1 adcT c).val =
      (((adcT.setWidth 32).sshiftRight 3 - c.t1.setWidth 32 <<< 1) * c.t2.signExtend 32).sshiftRight 11 := by
  simp only [tempVar1, asrS_val, mulS_val, subS_val, shlS_val, zext_val, sext_val]

theorem tempVar2_val (adcT : BitVec 20) (c : TempCoeffs) :
    (tempVar2 adcT c).val =
      let b := (adcT.setWidth 32).sshiftRight 4 - c.t1.setWidth 32
      ((b * b).sshiftRight 12 * c.t3.signExtend 32).sshiftRight 14 := by
  simp only [tempVar2, asrS_val, mulS_val, subS_val, zext_val, sext_val]

/-! ## The reference pressure body (R203) -/

theorem pressVar1_val (tfine : S32) : (pressVar1 tfine).val = tfine.sshiftRight 1 - 64000#32 := by
  rw [pressVar1, subS_val, asrS_val, exact_val, const_ofNat_val]

/-- S2 to S4. -/
theorem pressVar2_val (tfine : S32) (c : PressCoeffs) :
    (pressVar2 tfine c).val =
      let v1 := tfine.sshiftRight 1 - 64000#32
      let q := v1.sshiftRight 2
      ((q * q).sshiftRight 11 * c.p6.signExtend 32 + (v1 * c.p5.signExtend 32) <<< 1).sshiftRight 2 +
        c.p4.signExtend 32 <<< 16 := by
  simp only [pressVar2, addS_val, mulS_val, asrS_val, shlS_val, sext_val, pressVar1_val]

/-- S7. -/
theorem pressDividend_val (adcP : BitVec 20) (var2 : Checked S32) :
    (pressDividend adcP var2).val = (1048576#32 - adcP.setWidth 32 - var2.val.sshiftRight 12) * 3125#32 := by
  rw [pressDividend, mulU_val, subU_val, subS_val, asrS_val, zext_val, const_ofNat_val, exact_val]

/-- S9 to S11 on the quotient p. -/
def pressOfQuotient (c : PressCoeffs) (p : U32) : U32 :=
  p + ((c.p9.signExtend 32 * ((p >>> 3 * (p >>> 3)) >>> 13)).sshiftRight 12 +
    (p >>> 2 * c.p8.signExtend 32).sshiftRight 13 + c.p7.signExtend 32).sshiftRight 4

theorem pressAfterDivision_val (c : PressCoeffs) (p : Checked U32) :
    (pressAfterDivision c p).val = pressOfQuotient c p.val := by
  simp only [pressAfterDivision, pressOfQuotient, addS_val, mulS_val, asrS_val, mulU_val, lsrU_val, sext_val]

/-! ## The reference humidity body (R213) -/

/-- y4. -/
theorem humScaleTerm_val (v : Checked S32) (c : HumCoeffs) :
    (humScaleTerm v c).val =
      let y1 := (v.val * c.h6.signExtend 32).sshiftRight 10
      let y2 := (v.val * c.h3.setWidth 32).sshiftRight 11 + 32768#32
      (((y1 * y2).sshiftRight 10 + 2097152#32) * c.h2.signExtend 32 + 8192#32).sshiftRight 14 := by
  simp only [humScaleTerm, asrS_val, addS_val, mulS_val, sext_val, zext_val, const_ofNat_val]

theorem humAccumulator_val (adcH : BitVec 16) (tfine : S32) (c : HumCoeffs) :
    (humAccumulator adcH tfine c).val =
      let v := tfine - 76800#32
      let x1 := adcH.setWidth 32 <<< 14 - c.h4.signExtend 32 <<< 20 - c.h5.signExtend 32 * v
      let w := (x1 + 16384#32).sshiftRight 15 * (humScaleTerm (subS (exact tfine) (const 76800)) c).val
      let z := w.sshiftRight 15
      w - ((z * z).sshiftRight 7 * c.h1.setWidth 32).sshiftRight 4 := by
  simp only [humAccumulator, subS_val, mulS_val, asrS_val, addS_val, shlS_val, exact_val, sext_val, zext_val,
    const_ofNat_val]

/-! ## The reference bodies, and the others -/

/-- Settles O37: the two terms of R196 and T-FINAL. -/
theorem cmptComputesTheReference : Obligations.CmptComputesTheReference := by
  intro s hc ha hw hb adc t1 t2 t3 a var1 b var2 tfine
  have htfine : ((bodyOf s.cfg.compBody).compT s.adcT s.cal.t).tfine.val = tfine := by
    rw [hb, bodyOf, referenceBody, tempOfTerms_tfine_val, tempVar1_val, tempVar2_val]
  rw [exec_cmpt_of_wrap hw ha hc, finish, tempState, compT_t_val, htfine]

/-- Settles O38: the dividend of S7 and the denominator of S6 in the guarded division, then S9 to S11. -/
theorem cmppComputesTheReference : Obligations.CmppComputesTheReference := by
  intro s hc ha hw hb c adc v1 q s2 s3 s4 s5 d s7 p s9 s10 s11
  have hp : ((bodyOf s.cfg.compBody).compP s.adcP s.tfine s.cal.p).val = if d = 0#32 then 0#32 else s11 := by
    rw [hb, bodyOf, referenceBody, guardedDivision_val _ _ _ (f := pressOfQuotient c) (pressAfterDivision_val c),
      pressDenominator_val, pressDividend_val, pressVar2_val, pressOfQuotient]
  rw [exec_cmpp_of_wrap hw ha hc, finish, pressState, hp]

/-- Settles O39: the accumulator of R213, clamped. -/
theorem cmphComputesTheReference : Obligations.CmphComputesTheReference := by
  intro s hc ha hv hw hb c adc v x1 x2 y1 y2 y3 y4 w z w2 k
  have hacc : (humAccumulator s.adcH s.tfine s.cal.h).val = w2 := by
    rw [humAccumulator_val, humScaleTerm_val, subS_val, exact_val, const_ofNat_val]
  have hh : ((bodyOf s.cfg.compBody).compH s.adcH s.tfine s.cal.h).val = k >>> 12 := by
    rw [hb, bodyOf, referenceBody, clampShift_val, hacc]
  rw [exec_cmph_of_wrap hw ha hc hv, finish, humState, hh]

/-- Settles O40: of the reference body's accumulator, by H-CLAMP on numbers. -/
theorem humidityClampSaturates : Obligations.HumidityClampSaturates := by
  intro s hc ha hv hw hb
  refine ⟨_, exec_cmph_of_wrap hw ha hc hv, rfl, ?_⟩
  rw [finish, humState, hb]
  exact clampShift_toNat (humAccumulator s.adcH s.tfine s.cal.h)

/-- Settles O41: T-FINAL and the humidity bound of any body, the guarded division and the clamp of the other ones. -/
theorem anyBodyKeepsItsProperties : Obligations.AnyBodyKeepsItsProperties := by
  intro s hw ha hv
  refine ⟨fun hc => ?_, fun hc => ?_, fun hc => ?_⟩
  · refine ⟨_, _, exec_cmpt_of_wrap hw ha hc, compT_t_val .., fun hb => ?_⟩
    rw [tempState, hb]
    exact tempOfTerms_tfine_val ..
  · refine ⟨_, exec_cmpp_of_wrap hw ha hc, fun hb => ?_⟩
    rw [pressState, hb]
    exact guardedDivision_val (f := fun q => (Config.otherAfterDivision q s.adcP s.tfine s.cal.p).val) _ _ _
      fun _ => rfl
  · refine ⟨_, exec_cmph_of_wrap hw ha hc hv, compH_le .., fun hb => ?_⟩
    rw [humState, hb]
    exact clampShift_toNat _

end Sys2Proof.Machine
end

section
/-! The commands SCALE and ALT (spec 44_output.md R231, R232, R236 to R239). -/

namespace Sys2Proof.Machine

/-! ## The commands at their stages -/

theorem exec_scale_of_stage {s : State} (hc : s.cyc = 4#3) : exec .scale s = .next (finish (scaledState s)) :=
  congrArg endCommand (microScale_eq hc)

theorem exec_alt_of_stage {s : State} (hc : s.cyc = 5#3) : exec .alt s = .next (finish (recordedState s)) :=
  congrArg endCommand (microAlt_eq hc)

/-! ## The barometric formula at the reference pressure and at pressure zero -/

theorem pow_one_base (e : Rat) : pow 1 e = 1 := if_pos rfl

theorem rnd_zero : rnd 0 = 0 := if_pos rfl

theorem pSea_ne_zero : pSea ≠ 0 := by norm_num [pSea]

/-- At the reference pressure the base of the power is 1, so the formula's factor 1 - x is 0 (R238 b). -/
theorem altitude_pSea (t : Rat) : altitude t pSea = 0 := by
  rw [altitude, div_self pSea_ne_zero, pow_one_base, sub_self, mul_zero, zero_div]

theorem altResult_pSea (t : Rat) (free : Flt) : altResult (.real t) (.real pSea) free = .real 0 := by
  rw [altResult_of_ne_zero t free pSea_ne_zero, altitude_pSea, rnd_zero]

/-- At pressure zero ALT stores the free value, whatever the temperature (R237). -/
theorem altResult_zero (mT free : Flt) : altResult mT (.real 0) free = free := by
  cases mT with
  | real t => rw [altResult, if_pos rfl]
  | _ => rfl

/-! ## The obligations -/

/-- Settles O44: the word is SCALE's encoding, the refusal is O42's, and at stage 4 the block becomes `scaledState`. -/
theorem scaleDividesTheResults : Obligations.ScaleDividesTheResults := by
  refine ⟨fun len => decodeOfEncode len .scale rfl, fun s hr hc => ?_, fun s hc => exec_scale_of_stage hc⟩
  exact microScale_isMicroOf.exec_badSeq hr (microScale_of_notReady hc)

/-- Settles O45: the word is ALT's encoding, the refusal is O42's, and at a non-zero pressure `recordedState` holds the
rounded formula. -/
theorem altComputesTheAltitude : Obligations.AltComputesTheAltitude := by
  refine ⟨fun len => decodeOfEncode len .alt rfl, fun s hr hc => ?_, fun s t p hc ht hp hne => ?_⟩
  · exact microAlt_isMicroOf.exec_badSeq hr (microAlt_of_notReady hc)
  · rw [exec_alt_of_stage hc, finish, recordedState, ht, hp, altResult_of_ne_zero t _ hne]
    rfl

/-- Settles O46: at the reference pressure the formula is 0, and at pressure zero the free value is stored. -/
theorem altAtZeroAndSeaLevelPressure : Obligations.AltAtZeroAndSeaLevelPressure := by
  refine ⟨fun s t hc ht hp => ?_, fun s hc hp => ⟨Config.freeAlt s.draws, ?_⟩⟩
  · have hstored : altResult s.mT s.mP (Config.freeAlt s.draws) = .real 0 := by
      rw [ht, hp]
      exact altResult_pSea t _
    rw [exec_alt_of_stage hc, finish, recordedState, hstored]
  · rw [exec_alt_of_stage hc, finish, recordedState, hp, altResult_zero]

end Sys2Proof.Machine
end
